-- ==== Sys2Proof/Word.lean ====
section
/-! DEFINITION. The widths of the block's words (spec/00_scope.md R5, R10; spec/30_encoding.md R81 to R84).
Bit 0 is the least significant bit of every vector (R10). -/

namespace Sys2Proof

/-- One byte, the unit in which a selector word is written down for the decoder on bytes. -/
abbrev Byte := BitVec 8

/-- `sample[9:0]` and the quantizer's thresholds, unsigned (R10, R20). -/
abbrev Sample := BitVec 10

/-- `led[7:0]`: bit i is LED i (R21, R61). -/
abbrev LedPattern := BitVec 8

/-- `time_left` and everything compared with it, two's complement (R10, R149). -/
abbrev Ticks := BitVec 16

/-- The 6-bit counter of a debouncer, unsigned (R22). -/
abbrev SettleCount := BitVec 6

/-- A tier, the 3-bit index of a duration class (R13, R24). -/
abbrev Tier := Fin 8

/-- The content of `chk_k`, 3 bits unsigned; 1 to 7 are checks, 0 is unreachable (R22, R148). -/
abbrev CheckNo := Fin 8

/-- Format M, `WM[9:0]` (R81). -/
abbrev MainWord := BitVec 10

/-- Format D, `WD[5:0]` (R82). -/
abbrev DebounceWord := BitVec 6

/-- Format Q, `c[7:0]` (R83). -/
abbrev CompareWord := BitVec 8

/-- Format I, the input word `IN[15:0]` (R84). -/
abbrev InWord := BitVec 16

/-- Format I, the output word `OUT[9:0]` (R84). -/
abbrev OutWord := BitVec 10

end Sys2Proof
end

