-- ==== Sys2Proof/Syntax.lean ====
section
/-! DEFINITION. The operations of spec/opcode_table.json, the input and output vectors, and the stimulus script
(spec/30_encoding.md R80, R84, R86 to R88, R93, R94). -/

namespace Sys2Proof

/-- Which of the two identical debouncers: x = s (Start) or x = p (Stop) of spec/42_debouncer.md. -/
inductive DbUnit where
  | start
  | stop
  deriving DecidableEq, Repr

/-- One constructor per row of spec/opcode_table.json. The eight D rows serve both debouncers (R87): their one
operand says which unit performs the operation; it comes from the decoder that read the word, not from a bit of
the word (log 6). No operation has an immediate or a register number (R85). -/
inductive Instr where
  | reset
  | selStart
  | selSample
  | selDrop
  | selIdle
  | runAbort
  | runFirstStep
  | runFirstRound
  | runExpire
  | runTickStep
  | runTickRound
  | runWait
  | dbReset (u : DbUnit)
  | dbDisabled (u : DbUnit)
  | dbIdle (u : DbUnit)
  | dbArm (u : DbUnit)
  | dbHold (u : DbUnit)
  | dbCount (u : DbUnit)
  | dbFire (u : DbUnit)
  | dbReject (u : DbUnit)
  | qTier7
  | qTier6
  | qTier5
  | qTier4
  | qTier3
  | qTier2
  | qTier1
  | qTier0
  deriving DecidableEq, Repr

/-- Which decoder reads a selector word (R80): the main unit's, one of the two debouncers', the quantizer's. -/
inductive Kind where
  | main
  | debounce (u : DbUnit)
  | quantizer
  deriving DecidableEq, Repr

/-- A selector word together with the decoder that reads it (R81 to R83). -/
inductive Selector where
  | main (w : MainWord)
  | debounce (u : DbUnit) (w : DebounceWord)
  | quantizer (c : CompareWord)
  deriving DecidableEq, Repr

/-- The values of the input ports at one clock edge (spec/10_state.md R20; `clk` is the step itself). -/
structure Input where
  rst : Bool
  mode : Bool
  btnStart : Bool
  btnStop : Bool
  tick : Bool
  sampleValid : Bool
  sample : Sample
  deriving DecidableEq, Repr, Inhabited

/-- The output ports (R21). -/
structure Output where
  valve : Bool
  ledStb : Bool
  led : LedPattern
  deriving DecidableEq, Repr

/-- A line of the stimulus script (R93): a level setting, which takes no step, or a cycle, which is one step. -/
inductive Line where
  | setMode (level : Bool)
  | setButton (u : DbUnit) (level : Bool)
  | cyc (rst tick : Bool) (sample : Option Nat)
  deriving DecidableEq, Repr

/-- The pseudo-operations of the stimulus script (R94). -/
inductive Pseudo where
  | reset
  | idle (n : Nat)
  | ticks (n : Nat)
  | sample (v : Nat)
  | press (u : DbUnit)
  | release (u : DbUnit)
  | click (u : DbUnit)
  | hold (u : DbUnit) (n : Nat)
  deriving DecidableEq, Repr

end Sys2Proof
end

