-- ==== Sys2Proof/Config.lean ====
section
/-! DEFINITION. The configuration record `Cfg` of spec/00_scope.md R5: the constants with their normative defaults,
and the two things the spec leaves open, which are opaque here: the fixed-table thresholds and the input vectors. -/

namespace Sys2Proof

/-- `T[0..7]` (R5, spec/40_quantizer.md R111), unsigned 10-bit. -/
def Config.thresholds : Vector Sample 8 :=
  #v[0x000, 0x07F, 0x0FF, 0x17F, 0x1FF, 0x27F, 0x2FF, 0x37F]

/-- `DUR[0..7]` (R5, R30, R113), unsigned 8-bit. -/
def Config.durations : Vector (BitVec 8) 8 := #v[0, 60, 80, 100, 120, 140, 160, 180]

/-- `PAT[0..7]` (R5, R114). -/
def Config.patterns : Vector LedPattern 8 := #v[0x80, 0x40, 0x20, 0x10, 0x08, 0x04, 0x02, 0x01]

/-- `MULT`, the proportional-mode multiplier (R5). -/
def Config.mult : Nat := 7

/-- `NSEG`, the number of LED segments, and of checks, of the countdown (R5). -/
def Config.nseg : Nat := 7

/-- `DEN`, the proportional-mode divisor (R5). -/
def Config.den : Nat := 8

/-- `SETTLE`, the settle delay in ticks (R5, R187). -/
def Config.settle : SettleCount := 50

/-- `FT_INIT[0..7]` (R5, spec/41_countdown.md R141). -/
def Config.ftInit : Vector Ticks 8 := #v[0, 60, 80, 100, 120, 140, 160, 1575]

/-- A fixed-table threshold table: tier and check number to a value in [0, 32767], the range R5 states, which is the
range of 15 bits. Row 0 and column 0 are never read (R142, R148). -/
abbrev FtTable := Tier → CheckNo → BitVec 15

/-- `FT_THR` rows 1 to 7: OPEN in the spec (R5, spec/93_implementation_defined.md U1), so without a body here; nothing
is known of a value but its range (log 4). -/
opaque Config.ftThr : FtTable

/-- The input vectors of the environment once the stimulus that State lists is used up: free (spec/00_scope.md R9,
spec/30_encoding.md R91; log 2). -/
opaque Config.envInput : Nat → Input

end Sys2Proof
end

