-- ==== Sys2Proof/WellFormed.lean ====
section
/-! DEFINITION. What a well-formed operation, table and script line are. The spec has no illegal operation and no
reserved selector value (spec/30_encoding.md R90, R92), so every operation is well formed; what a writer can get wrong is
a fixed-table row (spec/00_scope.md R5) and a script line (R93). -/

namespace Sys2Proof

/-- Every operation is well formed: its only possible operand, the debouncer that performs it, has no illegal value
(R87, R90). -/
def Instr.wellFormed : Instr → Bool
  | .reset | .selStart | .selSample | .selDrop | .selIdle | .runAbort | .runFirstStep | .runFirstRound
  | .runExpire | .runTickStep | .runTickRound | .runWait => true
  | .dbReset u | .dbDisabled u | .dbIdle u | .dbArm u | .dbHold u | .dbCount u | .dbFire u | .dbReject u =>
    u == .start || u == .stop
  | .qTier7 | .qTier6 | .qTier5 | .qTier4 | .qTier3 | .qTier2 | .qTier1 | .qTier0 => true

/-- "Every `FT_INIT[i]` and `FT_THR[i][k]` must lie in `[0, 32767]`" (R5), for one entry written as a number. -/
def ftEntryWellFormed (n : Int) : Bool := 0 ≤ n && n ≤ 32767

/-- A written-out threshold table: eight rows of seven entries, k = 1..7, each in range, row 0 all zeros (R5). -/
def ftRowsWellFormed (rows : List (List Int)) : Bool :=
  rows.length == 8 && rows.all (fun r => r.length == 7 && r.all ftEntryWellFormed)
    && (rows.head?.getD []).all (· == 0)

/-- A sample written in a script line must be a 10-bit value (spec/00_scope.md R13, R93). -/
def Line.wellFormed : Line → Bool
  | .setMode _ => true
  | .setButton _ _ => true
  | .cyc _ _ none => true
  | .cyc _ _ (some v) => v < 1024

end Sys2Proof
end

