-- ==== Sys2Proof/Decode.lean ====
section
/-! DEFINITION. The decoders of spec/30_encoding.md (formats M, D, Q: R86 to R89; format I: R84), total on every word,
a decoder on bytes that rejects by name, and after them the encoder, written from the same tables. -/

namespace Sys2Proof

/-! ### The three selector maps, in the order of priorities of R89 -/

/-- Format M (R81, R86, R89): `rst`, then by `ctrl`: in SELECTING the start event, then the sample; in RUNNING the stop
event, then the FIRST phase, then tick with expiry, then style. -/
def decodeMain (w : MainWord) : Instr :=
  if w.getLsbD 9 then .reset
  else if w.getLsbD 8 then
    if w.getLsbD 5 then .runAbort
    else if w.getLsbD 7 then
      if w.getLsbD 1 then
        if w.getLsbD 0 then .runExpire
        else if w.getLsbD 6 then .runTickStep else .runTickRound
      else .runWait
    else if w.getLsbD 6 then .runFirstStep else .runFirstRound
  else if w.getLsbD 4 then .selStart
  else if w.getLsbD 2 then
    if w.getLsbD 3 then .selDrop else .selSample
  else .selIdle

/-- Format D (R82, R87, R89), for the debouncer `u`: `rst`, then `en` = 0, then the state. -/
def decodeDebounce (u : DbUnit) (w : DebounceWord) : Instr :=
  if w.getLsbD 5 then .dbReset u
  else if w.getLsbD 4 then
    if w.getLsbD 3 then
      if w.getLsbD 1 then
        if w.getLsbD 0 then
          if w.getLsbD 2 then .dbReject u else .dbFire u
        else .dbCount u
      else .dbHold u
    else if w.getLsbD 2 then .dbArm u else .dbIdle u
  else .dbDisabled u

/-- Format Q (R83, R88): the highest set bit of `c` wins; no bit set is tier 0 (R112). -/
def decodeQuantizer (c : CompareWord) : Instr :=
  if c.getLsbD 7 then .qTier7
  else if c.getLsbD 6 then .qTier6
  else if c.getLsbD 5 then .qTier5
  else if c.getLsbD 4 then .qTier4
  else if c.getLsbD 3 then .qTier3
  else if c.getLsbD 2 then .qTier2
  else if c.getLsbD 1 then .qTier1
  else .qTier0

/-- The operation a selector word selects: total, since no selector value is illegal or reserved (R90). -/
def decode : Selector → Instr
  | .main w => decodeMain w
  | .debounce u w => decodeDebounce u w
  | .quantizer c => decodeQuantizer c

/-! ### Decoding bytes -/

/-- Why bytes are no selector word. The spec has no illegal word (R90); bytes can still be too few, too many, or hold a
bit where the format has none (R92: one fixed length per format). -/
inductive DecodeError where
  /-- The format's word takes another number of bytes. -/
  | wrongLength
  /-- A bit above the format's width is 1. -/
  | bitAboveFormat
  deriving DecidableEq, Repr

/-- The selector word in `bytes`, the first byte holding bits 7..0 (log 7). -/
def selectorOfBytes : Kind → List Byte → Except DecodeError Selector
  | .main, [b0, b1] =>
    if b1.toNat < 4 then .ok (.main (b1.setWidth 2 ++ b0)) else .error .bitAboveFormat
  | .debounce u, [b0] =>
    if b0.toNat < 64 then .ok (.debounce u (b0.setWidth 6)) else .error .bitAboveFormat
  | .quantizer, [b0] => .ok (.quantizer b0)
  | .main, _ => .error .wrongLength
  | .debounce _, _ => .error .wrongLength
  | .quantizer, _ => .error .wrongLength

/-- The operation that the bytes of a selector word select. -/
def decodeBytes (kind : Kind) (bytes : List Byte) : Except DecodeError Instr :=
  match selectorOfBytes kind bytes with
  | .ok x => .ok (decode x)
  | .error e => .error e

/-! ### A bare word of the opcode table -/

/-- The decoder for a word of which only its length in bits is known. Words of more than 8 bits are format M. A word of 6
bits or fewer is format D; one of 8 bits is format D when its bits 7..6, which that format lacks, are 0, and else
format Q: one byte alone cannot say which of the two it is (log 6). -/
def tableKind (nbits w : Nat) : Option Kind :=
  if 16 < nbits then none
  else if 8 < nbits then some .main
  else if w < 64 then some (.debounce .start)
  else if 6 < nbits then some .quantizer
  else none

/-- The bytes of such a word, lowest first, as many as its format has. -/
def tableBytes (kind : Kind) (w : Nat) : List Byte :=
  match kind with
  | .main => [BitVec.ofNat 8 w, BitVec.ofNat 8 (w / 256)]
  | .debounce _ => [BitVec.ofNat 8 w]
  | .quantizer => [BitVec.ofNat 8 w]

/-- The selector word of a table word, none where the number does not fit its bits or the decoder on bytes rejects it. -/
def tableSelector (nbits w : Nat) : Option Selector :=
  if w < 2 ^ nbits then
    match tableKind nbits w with
    | some kind =>
      match selectorOfBytes kind (tableBytes kind w) with
      | .ok x => some x
      | .error _ => none
    | none => none
  else none

/-- The operation the decoder reads from a word of the opcode table. -/
def decodeTableWord (nbits w : Nat) : Option Instr :=
  match tableSelector nbits w with
  | some x => some (decode x)
  | none => none

/-! ### The encoder -/

/-- The `match` value of the operation's row (R86 to R88): the word with every bit outside the mask 0. -/
def encode : Instr → Selector
  | .reset => .main 0x200
  | .selStart => .main 0x010
  | .selSample => .main 0x004
  | .selDrop => .main 0x00C
  | .selIdle => .main 0x000
  | .runAbort => .main 0x120
  | .runFirstStep => .main 0x140
  | .runFirstRound => .main 0x100
  | .runExpire => .main 0x183
  | .runTickStep => .main 0x1C2
  | .runTickRound => .main 0x182
  | .runWait => .main 0x180
  | .dbReset u => .debounce u 0x20
  | .dbDisabled u => .debounce u 0x00
  | .dbIdle u => .debounce u 0x10
  | .dbArm u => .debounce u 0x14
  | .dbHold u => .debounce u 0x18
  | .dbCount u => .debounce u 0x1A
  | .dbFire u => .debounce u 0x1B
  | .dbReject u => .debounce u 0x1F
  | .qTier7 => .quantizer 0x80
  | .qTier6 => .quantizer 0x40
  | .qTier5 => .quantizer 0x20
  | .qTier4 => .quantizer 0x10
  | .qTier3 => .quantizer 0x08
  | .qTier2 => .quantizer 0x04
  | .qTier1 => .quantizer 0x02
  | .qTier0 => .quantizer 0x00

/-- The `mask` of the operation's row (R86 to R88), as a number. -/
def rowMask : Instr → Nat
  | .reset => 0x200
  | .selStart => 0x310
  | .selSample => 0x31C
  | .selDrop => 0x31C
  | .selIdle => 0x314
  | .runAbort => 0x320
  | .runFirstStep => 0x3E0
  | .runFirstRound => 0x3E0
  | .runExpire => 0x3A3
  | .runTickStep => 0x3E3
  | .runTickRound => 0x3E3
  | .runWait => 0x3A2
  | .dbReset _ => 0x20
  | .dbDisabled _ => 0x30
  | .dbIdle _ => 0x3C
  | .dbArm _ => 0x3C
  | .dbHold _ => 0x3A
  | .dbCount _ => 0x3B
  | .dbFire _ => 0x3F
  | .dbReject _ => 0x3F
  | .qTier7 => 0x80
  | .qTier6 => 0xC0
  | .qTier5 => 0xE0
  | .qTier4 => 0xF0
  | .qTier3 => 0xF8
  | .qTier2 => 0xFC
  | .qTier1 => 0xFE
  | .qTier0 => 0xFE

/-- "A row matches when `(WM & mask) == match`" (R86), and only words of the row's own decoder can match. -/
def rowMatches (i : Instr) (x : Selector) : Bool :=
  match encode i, x with
  | .main m, .main w => w &&& BitVec.ofNat 10 (rowMask i) == m
  | .debounce u m, .debounce v w => u == v && w &&& BitVec.ofNat 6 (rowMask i) == m
  | .quantizer m, .quantizer c => c &&& BitVec.ofNat 8 (rowMask i) == m
  | _, _ => false

/-- The decoder a selector word belongs to. -/
def Selector.kind : Selector → Kind
  | .main _ => .main
  | .debounce u _ => .debounce u
  | .quantizer _ => .quantizer

/-- The bytes of a selector word, the first byte holding bits 7..0 (log 7). -/
def bytesOfSelector : Selector → List Byte
  | .main w => [w.setWidth 8, (w >>> 8).setWidth 8]
  | .debounce _ w => [w.setWidth 8]
  | .quantizer c => [c]

/-- The bytes of a well-formed operation. -/
def encodeBytes (i : Instr) : List Byte := bytesOfSelector (encode i)

/-! ### Format I -/

/-- The input vector that an `IN` word writes down (R84). -/
def decodeInput (w : InWord) : Input where
  rst := w.getLsbD 15
  mode := w.getLsbD 14
  btnStart := w.getLsbD 13
  btnStop := w.getLsbD 12
  tick := w.getLsbD 11
  sampleValid := w.getLsbD 10
  sample := w.setWidth 10

/-- The `IN` word of an input vector (R84, R93). -/
def encodeInput (i : Input) : InWord :=
  BitVec.ofBool i.rst ++ BitVec.ofBool i.mode ++ BitVec.ofBool i.btnStart ++ BitVec.ofBool i.btnStop
    ++ BitVec.ofBool i.tick ++ BitVec.ofBool i.sampleValid ++ i.sample

/-- The `OUT` word of the output ports (R84). -/
def encodeOutput (o : Output) : OutWord :=
  BitVec.ofBool o.valve ++ BitVec.ofBool o.ledStb ++ o.led

end Sys2Proof
end

