-- ==== Sys2Proof/Machine/State.lean ====
section
/-! DEFINITION. The state of the block: the 53 register bits of spec/10_state.md R22, and the model's own fields for what
the spec calls signals and inputs (logs 2 and 3). -/

namespace Sys2Proof.Machine

/-- `ctrl_state` (R22, spec/43_controller.md R202). -/
inductive Ctrl where
  | selecting
  | running
  deriving DecidableEq, Repr

/-- `phase` (R22, R26). -/
inductive Phase where
  | first
  | run
  deriving DecidableEq, Repr

/-- `run_mode` (R22, R29). -/
inductive Mode where
  | proportional
  | fixedTable
  deriving DecidableEq, Repr

/-- `dbs_state`, `dbp_state` (R22). -/
inductive DbState where
  | idle
  | settle
  deriving DecidableEq, Repr

/-- One debouncer's registers, `dbx_state` and `dbx_cnt` (R22, spec/42_debouncer.md). -/
structure Debouncer where
  state : DbState
  cnt : SettleCount
  deriving DecidableEq, Repr

/-- The quantizer's outputs (spec/40_quantizer.md R110). -/
structure QOut where
  tier : Tier
  duration : BitVec 8
  pattern : LedPattern
  deriving DecidableEq, Repr

/-- The registers: the complete set of R22, 53 bits. -/
structure Regs where
  ctrl : Ctrl
  phase : Phase
  selTier : Tier
  selValid : Bool
  runTier : Tier
  runMode : Mode
  timeLeft : Ticks
  chkK : CheckNo
  led : LedPattern
  ledStb : Bool
  valve : Bool
  dbs : Debouncer
  dbp : Debouncer
  deriving DecidableEq, Repr

/-- The registers, and the model's own fields: the quantizer's outputs and the two fire signals, which the Q rows and the
DB operations drive (R27, R110, R190; log 3), and the input vectors still to come, of which the first is at the ports
(R9; log 2). `drawn` counts the free input vectors taken after the list's end. -/
structure State extends Regs where
  q : QOut
  startFire : Bool
  stopFire : Bool
  stimulus : List Input
  drawn : Nat
  deriving DecidableEq, Repr

/-- Why the block stops with a fault: never. "No operation raises an exception" (spec/60_exceptions.md R230), so the type
has no constructor: no step can raise one, which is safe. -/
inductive Fault where
  deriving DecidableEq, Repr

/-- Why an operation has no meaning. -/
inductive Refusal where
  /-- Raised only by an arm of `exec` whose operation has no meaning yet; safe. No arm of this model raises it. -/
  | notModelled (mnemonic : String)
  deriving DecidableEq, Repr

/-- An idle debouncer with count 0, what `DB_RESET` leaves (spec/42_debouncer.md R184). -/
def Debouncer.cleared : Debouncer := ⟨.idle, 0⟩

/-- The reset column of R22 (spec/43_controller.md R208, spec/42_debouncer.md R184, spec/70_reset_and_hazards.md R262). -/
def Regs.reset : Regs where
  ctrl := .selecting
  phase := .first
  selTier := 0
  selValid := false
  runTier := 0
  runMode := .proportional
  timeLeft := 0
  chkK := 7
  led := 0x00
  ledStb := false
  valve := false
  dbs := Debouncer.cleared
  dbp := Debouncer.cleared

/-- The state after a reset step (R261, R262). The registers are the spec's. The fire signals are those of `DB_RESET`
(R184). `q`, `stimulus` and `drawn` are the model's: the outputs for sample 0, and no vector listed (DESIGN CHOICE,
logs 2 and 3). -/
def State.reset : State where
  toRegs := Regs.reset
  q := ⟨0, 0, 0x80⟩
  startFire := false
  stopFire := false
  stimulus := []
  drawn := 0

end Sys2Proof.Machine
end

