-- ==== Sys2Proof/Machine/Flags.lean ====
section
/-! DEFINITION. The condition signals of spec/10_state.md R27: each a pure function of the registers and the inputs of the
current step. The block has no flags register. -/

namespace Sys2Proof.Machine

/-- The comparator bank `c[7:0]`: `c[i] = (sample > T[i])`, unsigned, strict (spec/40_quantizer.md R111). -/
def comparators (sample : Sample) : CompareWord :=
  BitVec.ofFnLE fun i : Fin 8 => decide (Config.thresholds[i] < sample)

/-- The priority encoder in the source's sequential form, last match wins, 0 if no bit is set (R112). -/
def tierOf (c : CompareWord) : Tier :=
  ([0, 1, 2, 3, 4, 5, 6, 7] : List Tier).foldl (fun t i => if c.getLsbD i.val then i else t) 0

/-- `style`: 1, per-step, in proportional mode and for tier 7 in fixed-table mode (spec/41_countdown.md R143). -/
def styleOf (m : Mode) (i : Tier) : Bool := m == .proportional || i == 7

/-- `expire = (time_left <= 1)`, signed (R150). -/
def expireOf (t : Ticks) : Bool := t.sle 1

/-- `frz`: the start debouncer is in SETTLE (spec/43_controller.md R201). -/
def State.frz (s : State) : Bool := s.dbs.state == .settle

/-- `en_start` and `en_stop`, from the registers before the edge (spec/42_debouncer.md R182). -/
def State.enable (s : State) : DbUnit → Bool
  | .start => s.ctrl == .selecting && s.selValid
  | .stop => s.ctrl == .running

/-- `last = (dbx_cnt <= 1)`, unsigned (R183). -/
def lastOf (cnt : SettleCount) : Bool := decide (cnt ≤ 1)

end Sys2Proof.Machine
end

