-- ==== Sys2Proof/Machine/Operands.lean ====
section
/-! DEFINITION. Operand assembly (spec/30_encoding.md R85): the input vector at the ports, the table reads, the initial
value and the thresholds of a run, the bar-graph encoder. -/

namespace Sys2Proof.Machine

/-- The input vector sampled at this edge: the first one listed, else a free one (spec/00_scope.md R9; log 2). -/
def State.input (s : State) : Input :=
  match s.stimulus with
  | i :: _ => i
  | [] => Config.envInput s.drawn

/-- The button of a debouncer (spec/42_debouncer.md). -/
def buttonOf (i : Input) : DbUnit → Bool
  | .start => i.btnStart
  | .stop => i.btnStop

/-- `mode`: 0 proportional, 1 fixed-table (spec/10_state.md R20). -/
def Mode.ofBit (b : Bool) : Mode := if b then .fixedTable else .proportional

/-- The registers of a debouncer. -/
def State.db (s : State) : DbUnit → Debouncer
  | .start => s.dbs
  | .stop => s.dbp

/-- The fire signal of a debouncer (spec/10_state.md R27). -/
def State.fire (s : State) : DbUnit → Bool
  | .start => s.startFire
  | .stop => s.stopFire

/-- `INIT(m, i)` (spec/41_countdown.md R141). -/
def initialTime (m : Mode) (i : Tier) : Ticks :=
  match m with
  | .proportional => BitVec.ofNat 16 (Config.durations[i].toNat * Config.mult)
  | .fixedTable => Config.ftInit[i]

/-- `THR(m, i, k)` over a fixed-table `ft` (R142): product first, then one division; row 0 of the table is zeros. -/
def threshold (ft : FtTable) (m : Mode) (i : Tier) (k : CheckNo) : Ticks :=
  match m with
  | .proportional => BitVec.ofNat 16 (Config.durations[i].toNat * Config.mult * k.val / Config.den)
  | .fixedTable => if i = 0 then 0 else (ft i k).setWidth 16

/-- `b(t, k)`: `t > THR`, signed, strict (R145). -/
def checkBit (ft : FtTable) (m : Mode) (i : Tier) (k : CheckNo) (t : Ticks) : Bool :=
  (threshold ft m i k).slt t

/-- `bar(t)`: bit k-1 is `b(t, k)` for k = 1..7, seven independent lanes (R145, R159). -/
def bar (ft : FtTable) (m : Mode) (i : Tier) (t : Ticks) : BitVec 7 :=
  BitVec.ofFnLE fun j : Fin 7 => checkBit ft m i j.succ t

/-- `prev(k)`: 7 for k <= 1, else k - 1 (R147). -/
def prevCheck (k : CheckNo) : CheckNo := if k ≤ 1 then 7 else k - 1

/-- `t' = time_left - 1` in two's complement (R85, R149; log 10). -/
def State.nextTime (s : State) : Ticks := s.timeLeft - 1

/-- The result of class row i: tier, `DUR[i]`, `PAT[i]` (spec/40_quantizer.md R113, R114). -/
def classOut (i : Tier) : QOut := ⟨i, Config.durations[i], Config.patterns[i]⟩

/-- A written-out fixed table (rows by tier, entries k = 1..7) as a threshold table. -/
def ftTableOf (rows : List (List Int)) : FtTable := fun i k =>
  BitVec.ofInt 15 ((rows.getD i.val []).getD (k.val - 1) 0)

end Sys2Proof.Machine
end

