-- ==== Sys2Proof/Machine/Ops.lean ====
section
/-! DEFINITION. The operations over the registers that the meanings share. There is no memory and no numbered register
file (spec/20_memory.md R60, spec/10_state.md R25), and no exception is ever taken, so there is no operation for taking
one or returning (spec/60_exceptions.md R230, R234, R235); the exit from a run stands in its place. -/

namespace Sys2Proof.Machine

/-- The outcome of performing one operation. -/
abbrev Result := Host.Outcome State Fault Refusal

/-- One operation after another; a stop of the first is the stop of both. -/
def andThen (r : Result) (f : State → Result) : Result :=
  match r with
  | .next s => f s
  | .fault e => .fault e
  | .refused e => .refused e

/-- `led[k-1] <- b`, the other bits unchanged; no bit for k = 0 (spec/41_countdown.md R145, R148). -/
def writeLedBit (led : LedPattern) (k : CheckNo) (b : Bool) : LedPattern :=
  if k = 0 then led
  else if b then led ||| (1#8 <<< (k.val - 1))
  else led &&& ~~~(1#8 <<< (k.val - 1))

/-- `led[6:0] <- b`, `led[7]` unchanged (R152, R154). -/
def writeBar (led : LedPattern) (b : BitVec 7) : LedPattern := (led &&& 0x80) ||| b.setWidth 8

/-- One per-step check with counter value `t` (R145, R147): the bit of check `chk_k`, the strobe, the next check. -/
def State.checkStep (ft : FtTable) (t : Ticks) (s : State) : State :=
  { s with
    led := writeLedBit s.led s.chkK (checkBit ft s.runMode s.runTier s.chkK t)
    ledStb := true
    chkK := prevCheck s.chkK }

/-- All seven checks with counter value `t` (R145): the bar and the strobe; `chk_k` is not touched. -/
def State.checkRound (ft : FtTable) (t : Ticks) (s : State) : State :=
  { s with
    led := writeBar s.led (bar ft s.runMode s.runTier t)
    ledStb := true }

/-- The writes that `RUN_EXPIRE` and `RUN_ABORT` share: valve closed and SELECTING at one edge, no LED write
(spec/43_controller.md R204, R205). -/
def State.closeRun (s : State) : State :=
  { s with
    valve := false
    ctrl := .selecting
    phase := .first
    selValid := false
    ledStb := false }

/-- The result of class row `i` appears on the quantizer's outputs; no register is written (spec/40_quantizer.md R110 and
section 2). -/
def State.driveQ (i : Tier) (s : State) : State := { s with q := classOut i }

/-- One debouncer operation of unit `u`: its two registers and its fire signal (spec/42_debouncer.md R184 to R191). -/
def State.writeDb (u : DbUnit) (d : Debouncer) (fire : Bool) (s : State) : State :=
  match u with
  | .start => { s with dbs := d, startFire := fire }
  | .stop => { s with dbp := d, stopFire := fire }

/-- The step is over: the input vector that was at the ports is gone (an input that was not accepted is lost,
spec/20_memory.md R64; log 2). -/
def State.advance (s : State) : State :=
  match s.stimulus with
  | _ :: rest => { s with stimulus := rest }
  | [] => { s with drawn := s.drawn + 1 }

/-- The output ports: the registers of the same names (spec/10_state.md R21). -/
def State.output (s : State) : Output := ⟨s.valve, s.ledStb, s.led⟩

/-- The `OUT` word seen in a state (spec/30_encoding.md R84). -/
def State.outWord (s : State) : OutWord := encodeOutput s.output

end Sys2Proof.Machine
end

