-- ==== Sys2Proof/Machine/Controller.lean ====
section
/-! DEFINITION. Family CTL (spec/43_controller.md): the start, the abort and the reset of the main unit. -/

namespace Sys2Proof.Machine

/-- `SEL_START` (R203): entry into RUNNING with the selected tier and the encoding policy at the pin `mode`. -/
def execSelStart (s : State) : Result :=
  .next { s with
    runTier := s.selTier
    runMode := Mode.ofBit s.input.mode
    timeLeft := initialTime (Mode.ofBit s.input.mode) s.selTier
    chkK := 7
    phase := .first
    valve := true
    ctrl := .running
    ledStb := false }

/-- `RUN_ABORT` (R204): the run is closed; `time_left`, `chk_k` and `led` keep their values. -/
def execRunAbort (s : State) : Result := .next s.closeRun

/-- `RESET` (R208): every register of the main unit; the debouncers' registers are written by their own `DB_RESET`. -/
def execReset (s : State) : Result :=
  .next { s with toRegs := { Regs.reset with dbs := s.dbs, dbp := s.dbp } }

end Sys2Proof.Machine
end

