-- ==== Sys2Proof/Machine/Countdown.lean ====
section
/-! DEFINITION. Family RUN (spec/41_countdown.md): the countdown engine's six operations. -/

namespace Sys2Proof.Machine

/-- `RUN_FIRST_STEP` (R151): the first check of a per-step run, with `time_left` itself. -/
def execRunFirstStep (s : State) : Result :=
  .next { s.checkStep Config.ftThr s.timeLeft with phase := .run }

/-- `RUN_FIRST_ROUND` (R152): the first checks of a per-round run. -/
def execRunFirstRound (s : State) : Result :=
  .next { s.checkRound Config.ftThr s.timeLeft with phase := .run }

/-- `RUN_TICK_STEP` (R153): one decrement, then one check with the value after it. -/
def execRunTickStep (s : State) : Result :=
  .next { s.checkStep Config.ftThr s.nextTime with timeLeft := s.nextTime }

/-- `RUN_TICK_ROUND` (R154): one decrement, then all seven checks with the value after it. -/
def execRunTickRound (s : State) : Result :=
  .next { s.checkRound Config.ftThr s.nextTime with timeLeft := s.nextTime }

/-- `RUN_EXPIRE` (R155): the decrement is stored and the run is closed; `led` is not written. -/
def execRunExpire (s : State) : Result := .next { s.closeRun with timeLeft := s.nextTime }

/-- `RUN_WAIT` (R156). -/
def execRunWait (s : State) : Result := .next { s with ledStb := false }

end Sys2Proof.Machine
end

