-- ==== Sys2Proof/Machine/Debounce.lean ====
section
/-! DEFINITION. Family DB (spec/42_debouncer.md): the eight operations of a debouncer, for either unit `u`. -/

namespace Sys2Proof.Machine

/-- `DB_RESET` (R184). -/
def execDbReset (u : DbUnit) (s : State) : Result := .next (s.writeDb u Debouncer.cleared false)

/-- `DB_DISABLED` (R185): the unit is held cleared. -/
def execDbDisabled (u : DbUnit) (s : State) : Result := .next (s.writeDb u Debouncer.cleared false)

/-- `DB_IDLE` (R186): both registers keep their values. -/
def execDbIdle (u : DbUnit) (s : State) : Result := .next (s.writeDb u (s.db u) false)

/-- `DB_ARM` (R187): SETTLE, with the whole settle delay to wait. -/
def execDbArm (u : DbUnit) (s : State) : Result := .next (s.writeDb u ⟨.settle, Config.settle⟩ false)

/-- `DB_HOLD` (R189): both registers keep their values. -/
def execDbHold (u : DbUnit) (s : State) : Result := .next (s.writeDb u (s.db u) false)

/-- `DB_COUNT` (R188): one tick of the settle delay; only the count is written. -/
def execDbCount (u : DbUnit) (s : State) : Result :=
  .next (s.writeDb u { s.db u with cnt := (s.db u).cnt - 1 } false)

/-- `DB_FIRE` (R190): the event, and back to IDLE. -/
def execDbFire (u : DbUnit) (s : State) : Result := .next (s.writeDb u Debouncer.cleared true)

/-- `DB_REJECT` (R191): back to IDLE without an event. -/
def execDbReject (u : DbUnit) (s : State) : Result := .next (s.writeDb u Debouncer.cleared false)

end Sys2Proof.Machine
end

