-- ==== Sys2Proof/Machine/Quantizer.lean ====
section
/-! DEFINITION. Family Q (spec/40_quantizer.md): the class rows, and the selection operations of the main unit. -/

namespace Sys2Proof.Machine

/-- `Q_TIER7`: tier 7, duration 180, pattern 0x01 (R130). -/
def execQTier7 (s : State) : Result := .next (s.driveQ 7)

/-- `Q_TIER6`: tier 6, duration 160, pattern 0x02 (R129). -/
def execQTier6 (s : State) : Result := .next (s.driveQ 6)

/-- `Q_TIER5`: tier 5, duration 140, pattern 0x04 (R128). -/
def execQTier5 (s : State) : Result := .next (s.driveQ 5)

/-- `Q_TIER4`: tier 4, duration 120, pattern 0x08 (R127). -/
def execQTier4 (s : State) : Result := .next (s.driveQ 4)

/-- `Q_TIER3`: tier 3, duration 100, pattern 0x10 (R126). -/
def execQTier3 (s : State) : Result := .next (s.driveQ 3)

/-- `Q_TIER2`: tier 2, duration 80, pattern 0x20 (R125). -/
def execQTier2 (s : State) : Result := .next (s.driveQ 2)

/-- `Q_TIER1`: tier 1, duration 60, pattern 0x40 (R124). -/
def execQTier1 (s : State) : Result := .next (s.driveQ 1)

/-- `Q_TIER0`: tier 0, duration 0, pattern 0x80 (R123). -/
def execQTier0 (s : State) : Result := .next (s.driveQ 0)

/-- `SEL_SAMPLE` (R116): classify `in.sample` (R111, R112), keep its tier, show its pattern. The quantizer's class is
selected inside the operation (spec/30_encoding.md R80). -/
def execSelSample (s : State) : Result :=
  let s1 := s.driveQ (tierOf (comparators s.input.sample))
  .next { s1 with selTier := s1.q.tier, selValid := true, led := s1.q.pattern, ledStb := true }

/-- `SEL_DROP` (R117): the sample is lost. -/
def execSelDrop (s : State) : Result := .next { s with ledStb := false }

/-- `SEL_IDLE` (R118). -/
def execSelIdle (s : State) : Result := .next { s with ledStb := false }

end Sys2Proof.Machine
end

