-- ==== Sys2Proof/Machine/Dispatch.lean ====
section
/-! DEFINITION. `exec`: one arm per operation of spec/opcode_table.json. -/

namespace Sys2Proof.Machine

def exec (i : Instr) (s : State) : Host.Outcome State Fault Refusal :=
  match i with
  | .reset => Sys2Proof.Machine.execReset s
  | .selStart => Sys2Proof.Machine.execSelStart s
  | .selSample => Sys2Proof.Machine.execSelSample s
  | .selDrop => Sys2Proof.Machine.execSelDrop s
  | .selIdle => Sys2Proof.Machine.execSelIdle s
  | .runAbort => Sys2Proof.Machine.execRunAbort s
  | .runFirstStep => Sys2Proof.Machine.execRunFirstStep s
  | .runFirstRound => Sys2Proof.Machine.execRunFirstRound s
  | .runExpire => Sys2Proof.Machine.execRunExpire s
  | .runTickStep => Sys2Proof.Machine.execRunTickStep s
  | .runTickRound => Sys2Proof.Machine.execRunTickRound s
  | .runWait => Sys2Proof.Machine.execRunWait s
  | .dbReset u => Sys2Proof.Machine.execDbReset u s
  | .dbDisabled u => Sys2Proof.Machine.execDbDisabled u s
  | .dbIdle u => Sys2Proof.Machine.execDbIdle u s
  | .dbArm u => Sys2Proof.Machine.execDbArm u s
  | .dbHold u => Sys2Proof.Machine.execDbHold u s
  | .dbCount u => Sys2Proof.Machine.execDbCount u s
  | .dbFire u => Sys2Proof.Machine.execDbFire u s
  | .dbReject u => Sys2Proof.Machine.execDbReject u s
  | .qTier7 => Sys2Proof.Machine.execQTier7 s
  | .qTier6 => Sys2Proof.Machine.execQTier6 s
  | .qTier5 => Sys2Proof.Machine.execQTier5 s
  | .qTier4 => Sys2Proof.Machine.execQTier4 s
  | .qTier3 => Sys2Proof.Machine.execQTier3 s
  | .qTier2 => Sys2Proof.Machine.execQTier2 s
  | .qTier1 => Sys2Proof.Machine.execQTier1 s
  | .qTier0 => Sys2Proof.Machine.execQTier0 s

end Sys2Proof.Machine
end

