-- ==== Sys2Proof/Machine/Selectors.lean ====
section
/-! DEFINITION. The selector words, assembled from registers and inputs at each step (spec/30_encoding.md R80 to R83,
spec/43_controller.md R200), and the converse: a state and an input vector under which a given selector word's operation
is performed. -/

namespace Sys2Proof.Machine

/-- `WD` of debouncer `u`: rst, en, st, btn, tick, last (R82, R200 step 2). -/
def State.debounceWord (s : State) (u : DbUnit) : DebounceWord :=
  BitVec.ofBool s.input.rst ++ BitVec.ofBool (s.enable u) ++ BitVec.ofBool ((s.db u).state == .settle)
    ++ BitVec.ofBool (buttonOf s.input u) ++ BitVec.ofBool s.input.tick ++ BitVec.ofBool (lastOf (s.db u).cnt)

/-- `WM`: rst, ctrl, phase, style, stop_fire, start_fire, frz, sv, tick, expire (R81, R200 step 3). -/
def State.mainWord (s : State) (startFire stopFire : Bool) : MainWord :=
  BitVec.ofBool s.input.rst ++ BitVec.ofBool (s.ctrl == .running) ++ BitVec.ofBool (s.phase == .run)
    ++ BitVec.ofBool (styleOf s.runMode s.runTier) ++ BitVec.ofBool stopFire ++ BitVec.ofBool startFire
    ++ BitVec.ofBool s.frz ++ BitVec.ofBool s.input.sampleValid ++ BitVec.ofBool s.input.tick
    ++ BitVec.ofBool (expireOf s.timeLeft)

/-- The operation debouncer `u` performs in this step. -/
def State.debounceOp (s : State) (u : DbUnit) : Instr := decode (.debounce u (s.debounceWord u))

/-- The quantizer's class row of this step (R83, R110: evaluated in every step). -/
def State.quantizerOp (s : State) : Instr := decode (.quantizer (comparators s.input.sample))

/-- The operation the main unit performs in this step, given the fire signals of this step. -/
def State.mainOp (s : State) (startFire stopFire : Bool) : Instr :=
  decode (.main (s.mainWord startFire stopFire))

/-! ### Registers and inputs under which a selector word's operation is performed (log 5) -/

/-- Main unit. The bits of `w` go to the registers and inputs they are assembled from. A fire signal that the operation
looks at (start in SELECTING, stop in RUNNING) needs its debouncer at its last tick, so `tick` is then 1 whatever `w`
says, and `frz` is 1 for the start unit: bits outside the masks of `SEL_START` and `RUN_ABORT`. -/
def State.arrangeMain (w : MainWord) (s : State) : State :=
  let running := w.getLsbD 8
  let startNow := !running && w.getLsbD 4
  let stopNow := running && w.getLsbD 5
  { s with
    ctrl := if running then .running else .selecting
    phase := if w.getLsbD 7 then .run else .first
    runMode := if w.getLsbD 6 then .proportional else .fixedTable
    runTier := if w.getLsbD 6 then s.runTier else if s.runTier = 7 then 0 else s.runTier
    timeLeft := if w.getLsbD 0 then 1 else 2
    selValid := startNow || s.selValid
    dbs := if startNow then ⟨.settle, 1⟩ else if w.getLsbD 3 then ⟨.settle, Config.settle⟩ else Debouncer.cleared
    dbp := if stopNow then ⟨.settle, 1⟩ else Debouncer.cleared
    stimulus :=
      { rst := w.getLsbD 9, mode := false, btnStart := false, btnStop := false
        tick := w.getLsbD 1 || startNow || stopNow, sampleValid := w.getLsbD 2, sample := 0 } :: s.stimulus }

/-- A debouncer: its registers, its enable, its button and the tick, bit for bit. -/
def State.arrangeDebounce (u : DbUnit) (w : DebounceWord) (s : State) : State :=
  let d : Debouncer :=
    if w.getLsbD 3 then ⟨.settle, if w.getLsbD 0 then 1 else 2⟩ else ⟨.idle, if w.getLsbD 0 then 0 else 2⟩
  let i : Input :=
    { rst := w.getLsbD 5, mode := false, btnStart := u == .start && w.getLsbD 2
      btnStop := u == .stop && w.getLsbD 2, tick := w.getLsbD 1, sampleValid := false, sample := 0 }
  match u with
  | .start => { s with ctrl := .selecting, selValid := w.getLsbD 4, dbs := d, stimulus := i :: s.stimulus }
  | .stop =>
    { s with ctrl := if w.getLsbD 4 then .running else .selecting, dbp := d, stimulus := i :: s.stimulus }

/-- The quantizer: the lowest sample of the class that `c` selects, presented and accepted while selecting. -/
def State.arrangeQuantizer (c : CompareWord) (s : State) : State :=
  let i := tierOf c
  { s with
    ctrl := .selecting
    dbs := Debouncer.cleared
    stimulus :=
      { rst := false, mode := false, btnStart := false, btnStop := false, tick := false, sampleValid := true
        sample := if i = 0 then (if c.getLsbD 0 then 1 else 0) else Config.thresholds[i] + 1 } :: s.stimulus }

/-- Registers and an input vector under which the next step performs the operation of the selector word. -/
def State.arrange (s : State) : Selector → State
  | .main w => s.arrangeMain w
  | .debounce u w => s.arrangeDebounce u w
  | .quantizer c => s.arrangeQuantizer c

/-- The same for a word of the opcode table; the state itself where the word decodes to nothing. -/
def State.arrangeTableWord (s : State) (nbits w : Nat) : State :=
  match tableSelector nbits w with
  | some x => s.arrange x
  | none => s

end Sys2Proof.Machine
end

