-- ==== Sys2Proof/Machine/Compose.lean ====
section
/-! DEFINITION. The composition of a step (spec/43_controller.md R200): the two debouncers' operations, the quantizer's class
row and the main unit's operation, all selected from the registers and inputs before the edge. They write disjoint
fields, so the order of applying them does not matter (R200; log 1). -/

namespace Sys2Proof.Machine

/-- One clock edge. The fire signals of this step are what the debouncers' operations drive; every other bit of `WM` is
of the state before the edge. -/
def State.clockEdge (s : State) : Result :=
  andThen (exec (s.debounceOp .start) s) fun s1 =>
  andThen (exec (s.debounceOp .stop) s1) fun s2 =>
  andThen (exec s.quantizerOp s2) fun s3 =>
  andThen (exec (s.mainOp s3.startFire s3.stopFire) s3) fun s4 =>
  .next s4.advance

end Sys2Proof.Machine
end

