-- ==== Sys2Proof/Machine/Step.lean ====
section
/-! DEFINITION. One step of the block, one rising edge of `clk` (spec/00_scope.md R8, spec/43_controller.md R200). -/

namespace Sys2Proof.Machine

/-- The next state; total (spec/60_exceptions.md R230). -/
def step (s : State) : Host.Outcome State Fault Refusal := s.clockEdge

/-- The block fetches nothing: a selector word is assembled from registers and inputs (spec/30_encoding.md R80). So the
registers and the next input vector are set such that the very next step performs the operation of the word (log 5). -/
def State.withFetchWord (s : State) (nbits w : Nat) : State := s.arrangeTableWord nbits w

end Sys2Proof.Machine
end

