-- ==== Sys2Proof/Machine/Stimulus.lean ====
section
/-! DEFINITION. The stimulus script of spec/30_encoding.md section 6: script lines to input vectors (R93), and the exact
expansions of the pseudo-operations (R94). -/

namespace Sys2Proof.Machine

/-- The levels on `mode` and the two buttons; all 0 at the start of a script (R93). -/
structure Levels where
  mode : Bool
  btnStart : Bool
  btnStop : Bool
  deriving DecidableEq, Repr

/-- The levels before the first line. -/
def Levels.initial : Levels := ⟨false, false, false⟩

/-- The input vector of a cycle line at the current levels (R93). -/
def Levels.cycle (l : Levels) (rst tick : Bool) (sample : Option Nat) : Input where
  rst := rst
  mode := l.mode
  btnStart := l.btnStart
  btnStop := l.btnStop
  tick := tick
  sampleValid := sample.isSome
  sample := BitVec.ofNat 10 (sample.getD 0)

/-- The levels after a `SET` of a button. -/
def Levels.setButton (l : Levels) : DbUnit → Bool → Levels
  | .start, b => { l with btnStart := b }
  | .stop, b => { l with btnStop := b }

/-- The input vectors of a script, one per cycle line (R93). -/
def inputsOf (l : Levels) : List Line → List Input
  | [] => []
  | .setMode b :: rest => inputsOf { l with mode := b } rest
  | .setButton u b :: rest => inputsOf (l.setButton u b) rest
  | .cyc rst tick sample :: rest => l.cycle rst tick sample :: inputsOf l rest

/-- The expansion of a pseudo-operation (R94). -/
def expandPseudo : Pseudo → List Line
  | .reset => [.cyc true false none]
  | .idle n => List.replicate n (.cyc false false none)
  | .ticks n => List.replicate n (.cyc false true none)
  | .sample v => [.cyc false false (some v)]
  | .press u => [.setButton u true]
  | .release u => [.setButton u false]
  | .click u =>
    [.setButton u true, .cyc false false none] ++ List.replicate 49 (.cyc false true none)
      ++ [.setButton u false, .cyc false true none]
  | .hold u n => [.setButton u true, .cyc false false none] ++ List.replicate n (.cyc false true none)

/-- The input vectors of a script of pseudo-operations, from the initial levels. -/
def stimulusOf (script : List Pseudo) : List Input := inputsOf Levels.initial (script.flatMap expandPseudo)

end Sys2Proof.Machine
end

