-- ==== Sys2Proof/Safety.lean ====
section
/-! DEFINITION. What a good state of the block is: the invariants of spec/10_state.md R34, item by item, and those the
other rules imply about a run (spec/43_controller.md R206, spec/41_countdown.md R145, R160). Each is a decidable
proposition, so that a state can be checked. -/

namespace Sys2Proof.Machine

/-- The main unit's operation in a step from `s`: a fire signal is 1 exactly when that debouncer performs `DB_FIRE`
(spec/43_controller.md R200). -/
def State.performs (s : State) : Instr :=
  s.mainOp (s.debounceOp .start == .dbFire .start) (s.debounceOp .stop == .dbFire .stop)

/-- Several steps of the block. -/
def runSteps (n : Nat) (s : State) : Result := Host.Core.run Sys2Proof.core n s

/-- The main unit's operations in the next `n` steps from `s`, in order. -/
def operationsOf : Nat → State → List Instr
  | 0, _ => []
  | n + 1, s =>
    s.performs :: match step s with
      | .next t => operationsOf n t
      | .fault _ => []
      | .refused _ => []

/-- How many of these input vectors carry a tick. -/
def ticksIn (inputs : List Input) : Nat := inputs.countP (·.tick)

/-- R34 item 1, the safety requirement of spec/60_exceptions.md R236: the valve is open exactly in RUNNING. -/
abbrev ValveMatchesCtrl (s : State) : Prop := s.valve = (s.ctrl == .running)

/-- R34 item 2. -/
abbrev SelectingIsFirst (s : State) : Prop := s.ctrl = .selecting → s.phase = .first

/-- R34 item 3: `chk_k` is in 1..7. -/
abbrev CheckInRange (s : State) : Prop := 1 ≤ s.chkK.val ∧ s.chkK.val ≤ 7

/-- R34 item 4: with a classified sample the display is its one-hot pattern. -/
abbrev SelectionShown (s : State) : Prop :=
  s.ctrl = .selecting ∧ s.selValid = true → s.led = Config.patterns[s.selTier]

/-- R34 item 5: the bound in RUNNING, where 0 is seen only in a run that starts at 0, and -1 seen only in SELECTING after
such a run. -/
abbrev TimeWithinRun (s : State) : Prop :=
  (s.ctrl = .running →
      0 ≤ s.timeLeft.toInt ∧ s.timeLeft.toInt ≤ (initialTime s.runMode s.runTier).toInt ∧
        (s.timeLeft.toInt = 0 → initialTime s.runMode s.runTier = 0)) ∧
    (s.timeLeft.toInt = -1 → s.ctrl = .selecting ∧ initialTime s.runMode s.runTier = 0)

/-- R34 item 6. -/
abbrev TimeInRange (s : State) : Prop := -1 ≤ s.timeLeft.toInt ∧ s.timeLeft.toInt ≤ 32767

/-- R34 item 7, for one debouncer. -/
abbrev Debouncer.Ok (d : Debouncer) : Prop :=
  (d.state = .idle → d.cnt = 0) ∧ (d.state = .settle → 1 ≤ d.cnt.toNat ∧ d.cnt.toNat ≤ 50)

/-- R34 item 8: the start debouncer is IDLE in RUNNING, and in SELECTING while no sample is classified. -/
abbrev StartQuiet (s : State) : Prop :=
  (s.ctrl = .running → s.dbs.state = .idle) ∧
    (s.ctrl = .selecting ∧ s.selValid = false → s.dbs.state = .idle)

/-- R34 item 9: the last accepted sample's tier is the one `sel_tier` holds (R24; log 12). -/
abbrev TopLedMeansTierZero (s : State) : Prop := s.led.getLsbD 7 = true → s.selTier = 0

/-- The nine items of R34 together. -/
abbrev BlockInv (s : State) : Prop :=
  ValveMatchesCtrl s ∧ SelectingIsFirst s ∧ CheckInRange s ∧ SelectionShown s ∧ TimeWithinRun s ∧ TimeInRange s ∧
    (s.dbs.Ok ∧ s.dbp.Ok) ∧ StartQuiet s ∧ TopLedMeansTierZero s

/-- Before the first check of a run the stop debouncer is IDLE (R206). -/
abbrev StopQuietInFirst (s : State) : Prop :=
  s.ctrl = .running ∧ s.phase = .first → s.dbp.state = .idle

/-- In a per-round run that has made its first checks the bar shows the comparisons of the present `time_left`
(R145, R152, R154). -/
abbrev BarShowsTime (s : State) : Prop :=
  s.ctrl = .running ∧ s.phase = .run ∧ styleOf s.runMode s.runTier = false →
    ∀ j : Fin 7, s.led.getLsbD j.val =
      decide ((threshold Config.ftThr s.runMode s.runTier j.succ).toInt < s.timeLeft.toInt)

/-- Before the first check of a run nothing is counted and check 7 is next; in a per-step run `chk_k` is the check due after
`INIT - time_left` counted ticks (R146, R147, R160). -/
abbrev CheckFollowsTime (s : State) : Prop :=
  (s.ctrl = .running ∧ s.phase = .first →
      s.chkK = 7 ∧ s.timeLeft = initialTime s.runMode s.runTier) ∧
    (s.ctrl = .running ∧ s.phase = .run ∧ styleOf s.runMode s.runTier = true →
      (s.chkK.val : Int) =
        7 - ((initialTime s.runMode s.runTier).toInt - s.timeLeft.toInt + 1) % 7)

/-- `INIT - time_left`: in a run, how many ticks it has counted (R146, R157). -/
def State.counted (s : State) : Int := (initialTime s.runMode s.runTier).toInt - s.timeLeft.toInt

/-- In a per-step run, how many counted ticks ago check k is due: at most 6 (R160). -/
def State.lag (s : State) (k : CheckNo) : Int := (s.counted + k.val) % 7

/-- A run starts with its selection pattern on the LEDs and keeps bit 7 of it; in a per-step run each bar bit holds the
comparison that its own last check made, with the `time_left` of then, and the selection pattern's bit while that check is
still to come (R145, R151, R153, R160). -/
abbrev StepBarShowsLastChecks (s : State) : Prop :=
  (s.ctrl = .running ∧ s.phase = .first → s.led = Config.patterns[s.runTier]) ∧
    (s.ctrl = .running ∧ s.phase = .run → s.led.getLsbD 7 = Config.patterns[s.runTier].getLsbD 7) ∧
    (s.ctrl = .running ∧ s.phase = .run ∧ styleOf s.runMode s.runTier = true →
      ∀ j : Fin 7, s.led.getLsbD j.val =
        if s.lag j.succ ≤ s.counted then
          decide ((threshold Config.ftThr s.runMode s.runTier j.succ).toInt < s.timeLeft.toInt + s.lag j.succ)
        else Config.patterns[s.runTier].getLsbD j.val)

end Sys2Proof.Machine
end

