-- ==== Sys2Proof/Certificates/Slice0/Obligations.lean ====
section
/-! DEFINITION. The statements for the provers. Rules R<n> are those of spec/. A state's input vectors and the model's own
fields are arbitrary in every statement, and so is the fixed-table `Config.ftThr` (it has no body). -/

open Sys2Proof Sys2Proof.Machine

/-! ### Encodings -/

/-- R86: the twelve rows of format M are disjoint and cover every word. -/
def Obligations.MainSelectorRows : Prop :=
  ∀ w : MainWord,
    (decode (.main w) = .reset ↔ w &&& 0x200 = 0x200) ∧
    (decode (.main w) = .selStart ↔ w &&& 0x310 = 0x010) ∧
    (decode (.main w) = .selSample ↔ w &&& 0x31C = 0x004) ∧
    (decode (.main w) = .selDrop ↔ w &&& 0x31C = 0x00C) ∧
    (decode (.main w) = .selIdle ↔ w &&& 0x314 = 0x000) ∧
    (decode (.main w) = .runAbort ↔ w &&& 0x320 = 0x120) ∧
    (decode (.main w) = .runFirstStep ↔ w &&& 0x3E0 = 0x140) ∧
    (decode (.main w) = .runFirstRound ↔ w &&& 0x3E0 = 0x100) ∧
    (decode (.main w) = .runExpire ↔ w &&& 0x3A3 = 0x183) ∧
    (decode (.main w) = .runTickStep ↔ w &&& 0x3E3 = 0x1C2) ∧
    (decode (.main w) = .runTickRound ↔ w &&& 0x3E3 = 0x182) ∧
    (decode (.main w) = .runWait ↔ w &&& 0x3A2 = 0x180) ∧
    decode (.main w) ∈ [Instr.reset, .selStart, .selSample, .selDrop, .selIdle, .runAbort, .runFirstStep,
      .runFirstRound, .runExpire, .runTickStep, .runTickRound, .runWait]

/-- R87: the eight rows of format D, the same for both debouncers. -/
def Obligations.DebounceSelectorRows : Prop :=
  ∀ (u : DbUnit) (w : DebounceWord),
    (decode (.debounce u w) = .dbReset u ↔ w &&& 0x20 = 0x20) ∧
    (decode (.debounce u w) = .dbDisabled u ↔ w &&& 0x30 = 0x00) ∧
    (decode (.debounce u w) = .dbIdle u ↔ w &&& 0x3C = 0x10) ∧
    (decode (.debounce u w) = .dbArm u ↔ w &&& 0x3C = 0x14) ∧
    (decode (.debounce u w) = .dbHold u ↔ w &&& 0x3A = 0x18) ∧
    (decode (.debounce u w) = .dbCount u ↔ w &&& 0x3B = 0x1A) ∧
    (decode (.debounce u w) = .dbFire u ↔ w &&& 0x3F = 0x1B) ∧
    (decode (.debounce u w) = .dbReject u ↔ w &&& 0x3F = 0x1F) ∧
    decode (.debounce u w) ∈ [Instr.dbReset u, .dbDisabled u, .dbIdle u, .dbArm u, .dbHold u, .dbCount u, .dbFire u,
      .dbReject u]

/-- R88: the eight rows of format Q, and what each gives: tier, duration, pattern, and no register written.
That the outputs are held in a field is the model's choice (log 3). -/
def Obligations.QuantizerRows : Prop :=
  (∀ c : CompareWord,
    (decode (.quantizer c) = .qTier7 ↔ c &&& 0x80 = 0x80) ∧
    (decode (.quantizer c) = .qTier6 ↔ c &&& 0xC0 = 0x40) ∧
    (decode (.quantizer c) = .qTier5 ↔ c &&& 0xE0 = 0x20) ∧
    (decode (.quantizer c) = .qTier4 ↔ c &&& 0xF0 = 0x10) ∧
    (decode (.quantizer c) = .qTier3 ↔ c &&& 0xF8 = 0x08) ∧
    (decode (.quantizer c) = .qTier2 ↔ c &&& 0xFC = 0x04) ∧
    (decode (.quantizer c) = .qTier1 ↔ c &&& 0xFE = 0x02) ∧
    (decode (.quantizer c) = .qTier0 ↔ c &&& 0xFE = 0x00) ∧
    decode (.quantizer c) ∈ [Instr.qTier7, .qTier6, .qTier5, .qTier4, .qTier3, .qTier2, .qTier1, .qTier0]) ∧
  ∀ s : State,
    exec .qTier7 s = .next { s with q := ⟨7, 180, 0x01⟩ } ∧
    exec .qTier6 s = .next { s with q := ⟨6, 160, 0x02⟩ } ∧
    exec .qTier5 s = .next { s with q := ⟨5, 140, 0x04⟩ } ∧
    exec .qTier4 s = .next { s with q := ⟨4, 120, 0x08⟩ } ∧
    exec .qTier3 s = .next { s with q := ⟨3, 100, 0x10⟩ } ∧
    exec .qTier2 s = .next { s with q := ⟨2, 80, 0x20⟩ } ∧
    exec .qTier1 s = .next { s with q := ⟨1, 60, 0x40⟩ } ∧
    exec .qTier0 s = .next { s with q := ⟨0, 0, 0x80⟩ }

/-- Decode and encode agree, for every operation and every word its encoding admits, through the bytes of the word: the
bytes of a selector word decode to `i` exactly when the word matches the row of `i` (R86 to R88), and the encoder's word is
one of them. The byte layout is the model's choice (log 7). -/
def Obligations.BytesDecodeToTheMatchingRow : Prop :=
  ∀ i : Instr, i.wellFormed = true →
    rowMatches i (encode i) = true ∧
    decodeBytes (encode i).kind (encodeBytes i) = .ok i ∧
    ∀ x : Selector, decodeBytes x.kind (bytesOfSelector x) = .ok i ↔ rowMatches i x = true

/-- Words written out from the spec's encodings, the selector vectors of spec/95_test_vectors.md section 2.6 among them. -/
def Obligations.SelectorVectorsDecode : Prop :=
  decode (.main 0x3C6) = .reset ∧ decode (.main 0x05F) = .selStart ∧ decode (.main 0x045) = .selSample ∧
  decode (.main 0x04D) = .selDrop ∧ decode (.main 0x04B) = .selIdle ∧ decode (.main 0x1E3) = .runAbort ∧
  decode (.main 0x143) = .runFirstStep ∧ decode (.main 0x100) = .runFirstRound ∧ decode (.main 0x1C3) = .runExpire ∧
  decode (.main 0x1C2) = .runTickStep ∧ decode (.main 0x182) = .runTickRound ∧ decode (.main 0x181) = .runWait ∧
  decode (.debounce .start 0x1B) = .dbFire .start ∧ decode (.debounce .stop 0x1F) = .dbReject .stop ∧
  decode (.quantizer 0x11) = .qTier4 ∧ decode (.quantizer 0x42) = .qTier6

/-- R84: format I. The `IN` word and the input vector determine each other, and each port has the bit the rule gives it; the
`OUT` word is `valve`, `led_stb`, `led`. -/
def Obligations.InputAndOutputWords : Prop :=
  (∀ w : InWord, encodeInput (decodeInput w) = w) ∧
  (∀ i : Input, decodeInput (encodeInput i) = i ∧
    (encodeInput i).toNat = i.rst.toNat * 2 ^ 15 + i.mode.toNat * 2 ^ 14 + i.btnStart.toNat * 2 ^ 13
      + i.btnStop.toNat * 2 ^ 12 + i.tick.toNat * 2 ^ 11 + i.sampleValid.toNat * 2 ^ 10 + i.sample.toNat) ∧
  ∀ s : State, s.outWord.toNat = s.valve.toNat * 2 ^ 9 + s.ledStb.toNat * 2 ^ 8 + s.led.toNat

/-- R93: the lines of the stimulus script; a level setting takes no step, a cycle line is one step with the `IN` word of
the rule's formula. Well-formedness of a sample is the model's (log 15). -/
def Obligations.ScriptLinesGiveInputs : Prop :=
  (∀ (l : Levels) (b : Bool) (rest : List Line),
    inputsOf l (.setMode b :: rest) = inputsOf ⟨b, l.btnStart, l.btnStop⟩ rest ∧
    inputsOf l (.setButton .start b :: rest) = inputsOf ⟨l.mode, b, l.btnStop⟩ rest ∧
    inputsOf l (.setButton .stop b :: rest) = inputsOf ⟨l.mode, l.btnStart, b⟩ rest) ∧
  (∀ (l : Levels) (rst tick : Bool) (sample : Option Nat) (rest : List Line),
    (Line.cyc rst tick sample).wellFormed = true →
    ∃ i : Input, inputsOf l (.cyc rst tick sample :: rest) = i :: inputsOf l rest ∧
      (encodeInput i).toNat = rst.toNat * 2 ^ 15 + l.mode.toNat * 2 ^ 14 + l.btnStart.toNat * 2 ^ 13
        + l.btnStop.toNat * 2 ^ 12 + tick.toNat * 2 ^ 11 + sample.isSome.toNat * 2 ^ 10 + sample.getD 0) ∧
  Levels.initial = ⟨false, false, false⟩

/-- R94: the expansions of the pseudo-operations. -/
def Obligations.PseudoOperationsExpand : Prop :=
  ∀ (u : DbUnit) (n v : Nat),
    expandPseudo .reset = [.cyc true false none] ∧
    expandPseudo (.idle n) = List.replicate n (.cyc false false none) ∧
    expandPseudo (.ticks n) = List.replicate n (.cyc false true none) ∧
    expandPseudo (.sample v) = [.cyc false false (some v)] ∧
    expandPseudo (.press u) = [.setButton u true] ∧
    expandPseudo (.release u) = [.setButton u false] ∧
    expandPseudo (.click u) = expandPseudo (.press u) ++ expandPseudo (.idle 1) ++ expandPseudo (.ticks 49)
      ++ expandPseudo (.release u) ++ expandPseudo (.ticks 1) ∧
    expandPseudo (.hold u n) = expandPseudo (.press u) ++ expandPseudo (.idle 1) ++ expandPseudo (.ticks n) ∧
    (∀ l : Levels, (inputsOf l (expandPseudo (.click u))).length = 51)

/-! ### Tables and condition signals -/

/-- R141: the initial value of a run, for both modes and all tiers. -/
def Obligations.InitialTimeTable : Prop :=
  ∀ i : Tier,
    (initialTime .proportional i).toInt = ([0, 420, 560, 700, 840, 980, 1120, 1260] : List Int).getD i.val 0 ∧
    (initialTime .fixedTable i).toInt = ([0, 60, 80, 100, 120, 140, 160, 1575] : List Int).getD i.val 0

/-- R142: the thresholds, for every fixed table: the floor of the product over 8 in proportional mode; the table's entry in
fixed-table mode, 0 in row 0. -/
def Obligations.ThresholdFunction : Prop :=
  ∀ (ft : FtTable) (i : Tier) (k : CheckNo),
    (threshold ft .proportional i k).toInt =
      (([0, 60, 80, 100, 120, 140, 160, 180] : List Int).getD i.val 0 * 7 * k.val) / 8 ∧
    (threshold ft .fixedTable i k).toInt = (if i = 0 then 0 else ((ft i k).toNat : Int)) ∧
    ∀ m : Mode, 0 ≤ (threshold ft m i k).toInt

/-- R143, R150, R182, R183, R201: the condition signals, over every register content. -/
def Obligations.ConditionSignals : Prop :=
  (∀ (m : Mode) (i : Tier), styleOf m i = true ↔ m = .proportional ∨ (m = .fixedTable ∧ i = 7)) ∧
  (∀ t : Ticks, expireOf t = true ↔ t.toInt ≤ 1) ∧
  (∀ c : SettleCount, lastOf c = true ↔ c.toNat ≤ 1) ∧
  ∀ s : State,
    (s.enable .start = true ↔ s.ctrl = .selecting ∧ s.selValid = true) ∧
    (s.enable .stop = true ↔ s.ctrl = .running) ∧
    (s.frz = true ↔ s.dbs.state = .settle)

/-! ### The operations: what each one does, and that it completes -/

/-- R208: `RESET` writes every register of the main unit and nothing else. -/
def Obligations.ResetWritesTheMainUnit : Prop :=
  ∀ s : State, exec .reset s = .next { s with
    ctrl := .selecting, phase := .first, selTier := 0, selValid := false, runTier := 0, runMode := .proportional,
    timeLeft := 0, chkK := 7, led := 0x00, ledStb := false, valve := false }

/-- R203: `SEL_START`. The initial value is that of the mode at the pin and of the selected tier. -/
def Obligations.SelStartLoadsTheRun : Prop :=
  ∀ s : State, ∃ t0 : Ticks,
    exec .selStart s = .next { s with
      runTier := s.selTier, runMode := if s.input.mode then .fixedTable else .proportional, timeLeft := t0,
      chkK := 7, phase := .first, valve := true, ctrl := .running, ledStb := false } ∧
    t0.toInt = (if s.input.mode then ([0, 60, 80, 100, 120, 140, 160, 1575] : List Int).getD s.selTier.val 0
      else ([0, 60, 80, 100, 120, 140, 160, 180] : List Int).getD s.selTier.val 0 * 7)

/-- R116 with R111, R112, R113, R114: `SEL_SAMPLE` takes the tier of the highest threshold the sample exceeds, tier 0 if it
exceeds none, and shows its one-hot pattern.
That the quantizer's outputs stand in a field afterwards is the model's choice (log 3; R27: such signals are no state). -/
def Obligations.SelSampleClassifies : Prop :=
  ∀ s : State, ∃ i : Tier,
    exec .selSample s = .next { s with
      selTier := i, selValid := true, led := 0x80#8 >>> i.val, ledStb := true,
      q := ⟨i, BitVec.ofNat 8 (([0, 60, 80, 100, 120, 140, 160, 180] : List Nat).getD i.val 0), 0x80#8 >>> i.val⟩ } ∧
    (i = 0 ∨ ([0x000, 0x07F, 0x0FF, 0x17F, 0x1FF, 0x27F, 0x2FF, 0x37F] : List Nat).getD i.val 0 < s.input.sample.toNat) ∧
    ∀ j : Tier, i < j →
      s.input.sample.toNat ≤ ([0x000, 0x07F, 0x0FF, 0x17F, 0x1FF, 0x27F, 0x2FF, 0x37F] : List Nat).getD j.val 0

/-- R115: with the thresholds of R111 the tier that `SEL_SAMPLE` keeps is `sample[9:7]`. -/
def Obligations.SelectedTierIsTopSampleBits : Prop :=
  ∀ s : State, ∃ t : State, exec .selSample s = .next t ∧ t.selTier.val = s.input.sample.toNat / 128

/-- R117, R118, R156: `SEL_DROP`, `SEL_IDLE` and `RUN_WAIT` clear the strobe and do nothing else. -/
def Obligations.IdleOperationsOnlyClearTheStrobe : Prop :=
  ∀ s : State,
    exec .selDrop s = .next { s with ledStb := false } ∧
    exec .selIdle s = .next { s with ledStb := false } ∧
    exec .runWait s = .next { s with ledStb := false }

/-- R204: `RUN_ABORT`. -/
def Obligations.RunAbortClosesTheRun : Prop :=
  ∀ s : State, exec .runAbort s = .next { s with
    valve := false, ctrl := .selecting, phase := .first, selValid := false, ledStb := false }

/-- R155: `RUN_EXPIRE`; the decrement is exact wherever the register is not at its least value. -/
def Obligations.RunExpireClosesTheRun : Prop :=
  ∀ s : State, ∃ t' : Ticks,
    exec .runExpire s = .next { s with
      timeLeft := t', valve := false, ctrl := .selecting, phase := .first, selValid := false, ledStb := false } ∧
    (-32768 < s.timeLeft.toInt → t'.toInt = s.timeLeft.toInt - 1)

/-- R151 with R145, R147, R148: `RUN_FIRST_STEP` makes check `chk_k` with `time_left` itself and touches no other bit. -/
def Obligations.RunFirstStepChecksOneSegment : Prop :=
  ∀ s : State, ∃ led' : LedPattern,
    exec .runFirstStep s = .next { s with
      led := led', ledStb := true, chkK := if s.chkK ≤ 1 then 7 else s.chkK - 1, phase := .run } ∧
    ∀ j : Nat, j < 8 → led'.getLsbD j =
      if j + 1 = s.chkK.val then
        decide ((threshold Config.ftThr s.runMode s.runTier s.chkK).toInt < s.timeLeft.toInt)
      else s.led.getLsbD j

/-- R152 with R145: `RUN_FIRST_ROUND` makes all seven checks and keeps `led[7]` and `chk_k`. -/
def Obligations.RunFirstRoundChecksAllSegments : Prop :=
  ∀ s : State, ∃ led' : LedPattern,
    exec .runFirstRound s = .next { s with led := led', ledStb := true, phase := .run } ∧
    led'.getLsbD 7 = s.led.getLsbD 7 ∧
    ∀ j : Fin 7, led'.getLsbD j.val =
      decide ((threshold Config.ftThr s.runMode s.runTier j.succ).toInt < s.timeLeft.toInt)

/-- R153 with R145, R147, R148: `RUN_TICK_STEP` counts one tick and makes check `chk_k` with the value after it. -/
def Obligations.RunTickStepCountsAndChecks : Prop :=
  ∀ s : State, ∃ (t' : Ticks) (led' : LedPattern),
    exec .runTickStep s = .next { s with
      timeLeft := t', led := led', ledStb := true, chkK := if s.chkK ≤ 1 then 7 else s.chkK - 1 } ∧
    (-32768 < s.timeLeft.toInt → t'.toInt = s.timeLeft.toInt - 1) ∧
    ∀ j : Nat, j < 8 → led'.getLsbD j =
      if j + 1 = s.chkK.val then decide ((threshold Config.ftThr s.runMode s.runTier s.chkK).toInt < t'.toInt)
      else s.led.getLsbD j

/-- R154 with R145: `RUN_TICK_ROUND` counts one tick and makes all seven checks with the value after it. -/
def Obligations.RunTickRoundCountsAndChecks : Prop :=
  ∀ s : State, ∃ (t' : Ticks) (led' : LedPattern),
    exec .runTickRound s = .next { s with timeLeft := t', led := led', ledStb := true } ∧
    (-32768 < s.timeLeft.toInt → t'.toInt = s.timeLeft.toInt - 1) ∧
    led'.getLsbD 7 = s.led.getLsbD 7 ∧
    ∀ j : Fin 7, led'.getLsbD j.val =
      decide ((threshold Config.ftThr s.runMode s.runTier j.succ).toInt < t'.toInt)

/-- R184, R185, R191, R190: `DB_RESET`, `DB_DISABLED` and `DB_REJECT` clear the unit without an event, `DB_FIRE` with one; the
other unit is not touched. The fields of the fire signals are the model's (log 3). -/
def Obligations.DebounceClearingOperations : Prop :=
  ∀ s : State,
    (exec (.dbReset .start) s = .next { s with dbs := ⟨.idle, 0⟩, startFire := false } ∧
      exec (.dbReset .stop) s = .next { s with dbp := ⟨.idle, 0⟩, stopFire := false }) ∧
    (exec (.dbDisabled .start) s = .next { s with dbs := ⟨.idle, 0⟩, startFire := false } ∧
      exec (.dbDisabled .stop) s = .next { s with dbp := ⟨.idle, 0⟩, stopFire := false }) ∧
    (exec (.dbReject .start) s = .next { s with dbs := ⟨.idle, 0⟩, startFire := false } ∧
      exec (.dbReject .stop) s = .next { s with dbp := ⟨.idle, 0⟩, stopFire := false }) ∧
    (exec (.dbFire .start) s = .next { s with dbs := ⟨.idle, 0⟩, startFire := true } ∧
      exec (.dbFire .stop) s = .next { s with dbp := ⟨.idle, 0⟩, stopFire := true })

/-- R186, R187, R188, R189: `DB_IDLE` and `DB_HOLD` keep both registers, `DB_ARM` loads 50, `DB_COUNT` counts down by one
where there is something to count. The fields of the fire signals are the model's (log 3). -/
def Obligations.DebounceCountingOperations : Prop :=
  ∀ s : State,
    (exec (.dbIdle .start) s = .next { s with startFire := false } ∧
      exec (.dbIdle .stop) s = .next { s with stopFire := false }) ∧
    (exec (.dbHold .start) s = .next { s with startFire := false } ∧
      exec (.dbHold .stop) s = .next { s with stopFire := false }) ∧
    (exec (.dbArm .start) s = .next { s with dbs := ⟨.settle, 50⟩, startFire := false } ∧
      exec (.dbArm .stop) s = .next { s with dbp := ⟨.settle, 50⟩, stopFire := false }) ∧
    (∃ c : SettleCount, exec (.dbCount .start) s = .next { s with dbs := ⟨s.dbs.state, c⟩, startFire := false } ∧
      (0 < s.dbs.cnt.toNat → c.toNat = s.dbs.cnt.toNat - 1)) ∧
    ∃ c : SettleCount, exec (.dbCount .stop) s = .next { s with dbp := ⟨s.dbp.state, c⟩, stopFire := false } ∧
      (0 < s.dbp.cnt.toNat → c.toNat = s.dbp.cnt.toNat - 1)

/-- R230: every operation and every step answers a next state, for every register content and input. -/
def Obligations.EveryOperationIsTotal : Prop :=
  (∀ (i : Instr) (s : State), ∃ t : State, exec i s = .next t) ∧ ∀ s : State, ∃ t : State, step s = .next t

/-! ### The step -/

/-- A step runs the decoded operations (R12, R110, R200): the two debouncers' and the quantizer's, each selected by its word, and
the main unit's, selected by `WM` with the fire signals of this step; then the next input vector is at the ports. The order in
which they are applied is the model's (log 1: R200 gives none), so are the field that the class row drives in every step (log 3)
and the list that the input vectors come from (log 2). -/
def Obligations.StepRunsDecodedOperations : Prop :=
  ∀ s : State, ∃ s1 s2 s3 s4 : State,
    exec (decode (.debounce .start (s.debounceWord .start))) s = .next s1 ∧
    exec (decode (.debounce .stop (s.debounceWord .stop))) s1 = .next s2 ∧
    exec (decode (.quantizer (comparators s.input.sample))) s2 = .next s3 ∧
    exec (decode (.main (s.mainWord
      (decode (.debounce .start (s.debounceWord .start)) == .dbFire .start)
      (decode (.debounce .stop (s.debounceWord .stop)) == .dbFire .stop)))) s3 = .next s4 ∧
    step s = .next s4.advance

/-- R200: a step is simultaneous. Each operation is selected by its word, whose bits are those of the rule, and every register
of the next state is what the operation that owns it writes when performed ALONE on the state before the edge; the outputs
seen in the next step are the main unit's. -/
def Obligations.StepIsSimultaneous : Prop :=
  ∀ s : State,
    let wds : DebounceWord := BitVec.ofBool s.input.rst
      ++ BitVec.ofBool (decide (s.ctrl = .selecting ∧ s.selValid = true))
      ++ BitVec.ofBool (decide (s.dbs.state = .settle)) ++ BitVec.ofBool s.input.btnStart
      ++ BitVec.ofBool s.input.tick ++ BitVec.ofBool (decide (s.dbs.cnt.toNat ≤ 1))
    let wdp : DebounceWord := BitVec.ofBool s.input.rst ++ BitVec.ofBool (decide (s.ctrl = .running))
      ++ BitVec.ofBool (decide (s.dbp.state = .settle)) ++ BitVec.ofBool s.input.btnStop
      ++ BitVec.ofBool s.input.tick ++ BitVec.ofBool (decide (s.dbp.cnt.toNat ≤ 1))
    let ops := decode (.debounce .start wds)
    let opp := decode (.debounce .stop wdp)
    let wm : MainWord := BitVec.ofBool s.input.rst ++ BitVec.ofBool (decide (s.ctrl = .running))
      ++ BitVec.ofBool (decide (s.phase = .run)) ++ BitVec.ofBool (styleOf s.runMode s.runTier)
      ++ BitVec.ofBool (decide (opp = .dbFire .stop)) ++ BitVec.ofBool (decide (ops = .dbFire .start))
      ++ BitVec.ofBool (decide (s.dbs.state = .settle)) ++ BitVec.ofBool s.input.sampleValid
      ++ BitVec.ofBool s.input.tick ++ BitVec.ofBool (decide (s.timeLeft.toInt ≤ 1))
    ∃ a b m t : State,
      exec ops s = .next a ∧ exec opp s = .next b ∧ exec (decode (.main wm)) s = .next m ∧ step s = .next t ∧
      t.toRegs = { m.toRegs with dbs := a.dbs, dbp := b.dbp } ∧ t.output = ⟨m.valve, m.ledStb, m.led⟩

/-- The model's choice (log 2): a step uses up exactly the input vector at the ports. -/
def Obligations.StepConsumesOneInput : Prop :=
  ∀ s t : State, step s = .next t →
    (∀ (i : Input) (rest : List Input), s.stimulus = i :: rest →
      s.input = i ∧ t.stimulus = rest ∧ t.drawn = s.drawn) ∧
    (s.stimulus = [] → s.input = Config.envInput s.drawn ∧ t.stimulus = [] ∧ t.drawn = s.drawn + 1)

/-- R184, R208, R260, R262: a step with `rst` = 1 performs the three resets whatever the state and the other inputs are, and
leaves every register at its reset value. The fields in which the fire signals (0, R184) stand after the step are the model's
(log 3). -/
def Obligations.ResetStepLeavesTheResetState : Prop :=
  ∀ s : State, s.input.rst = true →
    s.performs = .reset ∧ s.debounceOp .start = .dbReset .start ∧ s.debounceOp .stop = .dbReset .stop ∧
    ∃ t : State, step s = .next t ∧ t.startFire = false ∧ t.stopFire = false ∧
      t.toRegs = {
        ctrl := .selecting, phase := .first, selTier := 0, selValid := false, runTier := 0, runMode := .proportional,
        timeLeft := 0, chkK := 7, led := 0x00, ledStb := false, valve := false, dbs := ⟨.idle, 0⟩, dbp := ⟨.idle, 0⟩ }

/-- R182 to R191: what a debouncer's registers and fire signal are after a step, from its registers, its button, its enable,
`tick` and `rst`. That the fire signal stands in a field after the step is the model's (log 3; R190: a signal of this step, not a
register). -/
def Obligations.DebouncerStep : Prop :=
  ∀ (s : State) (u : DbUnit), ∃ t : State, step s = .next t ∧
    let d := s.db u
    if s.input.rst = true ∨ s.enable u = false then t.db u = ⟨.idle, 0⟩ ∧ t.fire u = false
    else match d.state with
      | .idle => t.db u = (if buttonOf s.input u then ⟨.settle, 50⟩ else d) ∧ t.fire u = false
      | .settle =>
        if s.input.tick = false then t.db u = d ∧ t.fire u = false
        else if d.cnt.toNat ≤ 1 then t.db u = ⟨.idle, 0⟩ ∧ t.fire u = !buttonOf s.input u
        else (t.db u).state = .settle ∧ (t.db u).cnt.toNat + 1 = d.cnt.toNat ∧ t.fire u = false

/-- R209: the transition table. A state of the table is in SELECTING only with `phase` FIRST, and has no stop event in the FIRST
phase of a run (both are invariants, stated below). -/
def Obligations.TransitionTable : Prop :=
  ∀ s : State, SelectingIsFirst s → StopQuietInFirst s → ∃ t : State, step s = .next t ∧
    let startFire := s.debounceOp .start = .dbFire .start
    let stopFire := s.debounceOp .stop = .dbFire .stop
    (s.input.rst = true → s.performs = .reset ∧ t.ctrl = .selecting ∧ t.phase = .first) ∧
    (s.input.rst = false →
      (s.ctrl = .selecting → startFire → s.performs = .selStart ∧ t.ctrl = .running ∧ t.phase = .first) ∧
      (s.ctrl = .selecting → ¬startFire →
        s.performs ∈ [Instr.selSample, .selDrop, .selIdle] ∧ t.ctrl = .selecting ∧ t.phase = .first) ∧
      (s.ctrl = .running → s.phase = .first →
        ¬stopFire ∧ s.performs ∈ [Instr.runFirstStep, .runFirstRound] ∧ t.ctrl = .running ∧ t.phase = .run) ∧
      (s.ctrl = .running → s.phase = .run → stopFire →
        s.performs = .runAbort ∧ t.ctrl = .selecting ∧ t.phase = .first) ∧
      (s.ctrl = .running → s.phase = .run → ¬stopFire → s.input.tick = true → expireOf s.timeLeft = true →
        s.performs = .runExpire ∧ t.ctrl = .selecting ∧ t.phase = .first) ∧
      (s.ctrl = .running → s.phase = .run → ¬stopFire → s.input.tick = true → expireOf s.timeLeft = false →
        s.performs ∈ [Instr.runTickStep, .runTickRound] ∧ t.ctrl = .running ∧ t.phase = .run) ∧
      (s.ctrl = .running → s.phase = .run → ¬stopFire → s.input.tick = false →
        s.performs = .runWait ∧ t.ctrl = .running ∧ t.phase = .run))

/-- R205: exactly `RUN_EXPIRE`, `RUN_ABORT` and `RESET` leave RUNNING, each with the valve closed at the same edge, in the
priority `RESET`, `RUN_ABORT`, `RUN_EXPIRE`. -/
def Obligations.ExitsFromRunning : Prop :=
  ∀ s t : State, s.ctrl = .running → step s = .next t →
    (t.ctrl = .selecting ↔ s.performs ∈ [Instr.runExpire, .runAbort, .reset]) ∧
    (t.ctrl = .selecting → t.valve = false) ∧
    (s.input.rst = true → s.performs = .reset) ∧
    (s.input.rst = false → s.debounceOp .stop = .dbFire .stop → s.performs = .runAbort)

/-- R31: the strobe is 1 after exactly the steps that write `led`, `RESET` apart, and `led` changes in no other step. -/
def Obligations.StrobeMarksLedWrites : Prop :=
  ∀ s t : State, step s = .next t →
    (t.ledStb = true ↔
      s.performs ∈ [Instr.selSample, .runFirstStep, .runFirstRound, .runTickStep, .runTickRound]) ∧
    (t.ledStb = false → s.performs ≠ .reset → t.led = s.led)

/-- R22, the column "writers": a register of the main unit keeps its value in every step whose operation is not one of its
writers. -/
def Obligations.RegistersHaveTheirWriters : Prop :=
  ∀ s t : State, step s = .next t →
    (s.performs ∉ [Instr.reset, .selStart, .runAbort, .runExpire] → t.ctrl = s.ctrl ∧ t.valve = s.valve) ∧
    (s.performs ∉ [Instr.reset, .selStart, .runFirstStep, .runFirstRound, .runAbort, .runExpire] →
      t.phase = s.phase) ∧
    (s.performs ∉ [Instr.reset, .selSample] → t.selTier = s.selTier) ∧
    (s.performs ∉ [Instr.reset, .selSample, .runAbort, .runExpire] → t.selValid = s.selValid) ∧
    (s.performs ∉ [Instr.reset, .selStart] → t.runTier = s.runTier ∧ t.runMode = s.runMode) ∧
    (s.performs ∉ [Instr.reset, .selStart, .runTickStep, .runTickRound, .runExpire] → t.timeLeft = s.timeLeft) ∧
    (s.performs ∉ [Instr.reset, .selStart, .runFirstStep, .runTickStep] → t.chkK = s.chkK) ∧
    (s.performs ∉ [Instr.reset, .selSample, .runFirstStep, .runFirstRound, .runTickStep, .runTickRound] →
      t.led = s.led)

/-- R28: `sel_valid` is set by `SEL_SAMPLE`, cleared by the three ends of a run, and while it is 0 no run can start. -/
def Obligations.SelValidGuardsTheStart : Prop :=
  ∀ s t : State, step s = .next t →
    (s.performs = .selSample → t.selValid = true) ∧
    (s.performs ∈ [Instr.reset, .runAbort, .runExpire] → t.selValid = false) ∧
    (s.ctrl = .selecting → s.selValid = false → t.ctrl = .selecting)

/-- R72: `mode` is read in `SEL_START` steps only, and there it is copied to `run_mode`. -/
def Obligations.ModeReadOnlyAtStart : Prop :=
  ∀ (s : State) (i : Input) (rest : List Input) (m : Bool), s.stimulus = i :: rest →
    ∃ t t' : State, step s = .next t ∧ step { s with stimulus := { i with mode := m } :: rest } = .next t' ∧
      (s.performs ≠ .selStart → t'.toRegs = t.toRegs) ∧
      (s.performs = .selStart → t.runMode = (if i.mode then .fixedTable else .proportional))

/-- R121: in RUNNING no operation reads the sample inputs. -/
def Obligations.SamplesIgnoredInRunning : Prop :=
  ∀ (s : State) (i : Input) (rest : List Input) (v : Bool) (x : Sample), s.stimulus = i :: rest → s.ctrl = .running →
    ∃ t t' : State, step s = .next t ∧
      step { s with stimulus := { i with sampleValid := v, sample := x } :: rest } = .next t' ∧
      t'.toRegs = t.toRegs ∧ (i.rst = false → t.selTier = s.selTier)

/-- R84: with `sample_valid` = 0 the sample is ignored, in every state. -/
def Obligations.InvalidSampleIgnored : Prop :=
  ∀ (s : State) (i : Input) (rest : List Input) (x : Sample), s.stimulus = i :: rest → i.sampleValid = false →
    ∃ t t' : State, step s = .next t ∧ step { s with stimulus := { i with sample := x } :: rest } = .next t' ∧
      t'.toRegs = t.toRegs

/-- R194: in every step at least one debouncer performs `DB_DISABLED` or `DB_RESET`, and at most one fires. -/
def Obligations.DebouncersExcludeEachOther : Prop :=
  ∀ s : State,
    (∃ u : DbUnit, s.debounceOp u = .dbDisabled u ∨ s.debounceOp u = .dbReset u) ∧
    ¬(s.debounceOp .start = .dbFire .start ∧ s.debounceOp .stop = .dbFire .stop)

/-- R117, R201: while the start debouncer settles, the selection and the display are frozen, and a run that starts takes the
frozen tier. -/
def Obligations.SettleFreezesTheSelection : Prop :=
  ∀ s t : State, s.ctrl = .selecting → s.dbs.state = .settle → s.input.rst = false → step s = .next t →
    t.selTier = s.selTier ∧ t.led = s.led ∧ (t.ctrl = .running → t.runTier = s.selTier)

/-- R68 item 1: the step that starts a run opens the valve and leaves `led` alone; the step after it makes the first LED write
of the run, or is a reset. -/
def Obligations.ValveOpensBeforeFirstLedWrite : Prop :=
  ∀ s t : State, s.performs = .selStart → step s = .next t →
    t.valve = true ∧ t.led = s.led ∧ t.ledStb = false ∧
    ((t.input.rst = false ∧ t.performs ∈ [Instr.runFirstStep, .runFirstRound] ∧
        ∃ t' : State, step t = .next t' ∧ t'.ledStb = true) ∨
      (t.input.rst = true ∧ t.performs = .reset))

/-- The model's choice (log 5): the state that stands for a fetch performs the operation of the given word, whatever the
state was. -/
def Obligations.ArrangedStatePerformsTheWord : Prop :=
  ∀ s : State,
    (∀ w : MainWord, (s.arrange (.main w)).performs = decode (.main w)) ∧
    (∀ (u : DbUnit) (w : DebounceWord), (s.arrange (.debounce u w)).debounceWord u = w) ∧
    ∀ c : CompareWord, (s.arrange (.quantizer c)).quantizerOp = decode (.quantizer c) ∧
      (s.arrange (.quantizer c)).performs = .selSample

/-! ### Invariants and runs -/

/-- R34, R206: the reset state has every invariant. -/
def Obligations.InvariantsHoldAtReset : Prop :=
  BlockInv State.reset ∧ StopQuietInFirst State.reset ∧ BarShowsTime State.reset ∧ CheckFollowsTime State.reset ∧
    StepBarShowsLastChecks State.reset

/-- R34, R236: every step keeps the nine items, from every state that has them; item 9 in the model's reading (log 12). -/
def Obligations.InvariantKeptByEveryStep : Prop :=
  ∀ s t : State, BlockInv s → step s = .next t → BlockInv t

/-- R34, R261: from ANY register content, the state after a reset step and every state after it have the nine items,
whatever the inputs are; and in SELECTING the stop debouncer is cleared without an event. Item 9 in the
model's reading (log 12); the field that holds the stop event after the step is the model's (log 3). -/
def Obligations.InvariantAfterFirstReset : Prop :=
  ∀ (s t : State) (n : Nat), s.input.rst = true → runSteps (n + 1) s = .next t →
    BlockInv t ∧ (t.ctrl = .selecting →
      ∃ t' : State, step t = .next t' ∧ t'.dbp = ⟨.idle, 0⟩ ∧ t'.stopFire = false)

/-- R206: no stop event in the FIRST phase: the stop debouncer is IDLE there, and every step keeps it so. -/
def Obligations.StopQuietInFirstKept : Prop :=
  ∀ s t : State, step s = .next t → StopQuietInFirst t

/-- R206: from a state with the stop debouncer IDLE, which is what `SEL_START` leaves, the next 50 steps contain no
`RUN_ABORT`. -/
def Obligations.NoAbortInFirstFiftySteps : Prop :=
  (∀ s t : State, s.performs = .selStart → step s = .next t → t.dbp.state = .idle) ∧
  ∀ (s t : State) (n : Nat), s.dbp.state = .idle → n < 50 → runSteps n s = .next t → t.performs ≠ .runAbort

/-- R145, R152, R154: in a per-round run the bar shows the comparisons of the present `time_left`; every step keeps it so. -/
def Obligations.BarShowsTimeKept : Prop :=
  ∀ s t : State, BarShowsTime s → step s = .next t → BarShowsTime t

/-- R147, R160: in a per-step run `chk_k` follows the number of counted ticks, modulo 7; every step keeps it so. -/
def Obligations.CheckFollowsTimeKept : Prop :=
  ∀ s t : State, CheckFollowsTime s → step s = .next t → CheckFollowsTime t

/-- R160 with R145, R151, R153: in a per-step run each bar bit is the comparison made at its own last check, at most 6 counted
ticks ago, and until its first check the selection pattern's bit; in every run bit 7 is the selection pattern's. Every step keeps
it so, from every state with the nine items and the check counter's invariant (both stated above); item 9 is in the model's reading
(log 12) and is not used. -/
def Obligations.StepBarKept : Prop :=
  ∀ s t : State, BlockInv s → CheckFollowsTime s → StepBarShowsLastChecks s → step s = .next t →
    StepBarShowsLastChecks t ∧ ∀ k : CheckNo, 0 ≤ t.lag k ∧ t.lag k ≤ 6

/-- R157, R207: the LEDs that a run leaves when it expires. In a per-round run, started above 0, exactly the segments with
threshold 0 are lit; after a proportional run of a tier above 0 no segment is. -/
def Obligations.LedsLeftAtExpiry : Prop :=
  ∀ s t : State, BlockInv s → CheckFollowsTime s → BarShowsTime s → StepBarShowsLastChecks s →
    s.performs = .runExpire → step s = .next t →
    t.led = s.led ∧
    (styleOf s.runMode s.runTier = false → 0 < (initialTime s.runMode s.runTier).toInt →
      ∀ j : Fin 7, t.led.getLsbD j.val = decide ((threshold Config.ftThr s.runMode s.runTier j.succ).toInt = 0)) ∧
    (s.runMode = .proportional → s.runTier ≠ 0 → ∀ j : Fin 7, t.led.getLsbD j.val = false)

/-- R192: the start debouncer, enabled and IDLE, arms at a press `a`; through any inputs without reset that carry 49 ticks it
produces no event; at the step `z` of the 50th tick it fires if the button reads 0 and rejects if it reads 1; the fire starts the
run in that step. -/
def Obligations.StartEventAtFiftiethTick : Prop :=
  ∀ (s : State) (a : Input) (ws : List Input) (z : Input) (rest : List Input),
    s.ctrl = .selecting → s.selValid = true → s.dbs.state = .idle → s.stimulus = a :: (ws ++ z :: rest) →
    a.rst = false → a.btnStart = true → (∀ w ∈ ws, w.rst = false) → ticksIn ws = 49 →
    z.rst = false → z.tick = true →
    ∃ t t' : State, runSteps (ws.length + 1) s = .next t ∧ step t = .next t' ∧
      t.ctrl = .selecting ∧ t.valve = s.valve ∧ t.dbs = ⟨.settle, 1⟩ ∧
      (z.btnStart = false → t.debounceOp .start = .dbFire .start ∧ t.performs = .selStart ∧
        t'.ctrl = .running ∧ t'.valve = true ∧ t'.runTier = t.selTier ∧ t'.dbs = ⟨.idle, 0⟩) ∧
      (z.btnStart = true → t.debounceOp .start = .dbReject .start ∧ t'.ctrl = .selecting ∧ t'.valve = s.valve ∧
        t'.dbs = ⟨.idle, 0⟩)

/-- R192, R190, R191, R233: the stop debouncer in a run, IDLE, arms at a press `a`; through any inputs that carry 49 ticks,
whatever the button does, no step aborts: if none of them resets or expires the run, the run is still on. At the step `z` of the
50th tick the unit fires if the button reads 0, and that very step aborts the run without counting the tick; it rejects if the
button reads 1, and that step counts the tick. -/
def Obligations.StopEventAtFiftiethTick : Prop :=
  ∀ (s : State) (a : Input) (ws : List Input) (z : Input) (rest : List Input),
    s.ctrl = .running → s.dbp.state = .idle → s.stimulus = a :: (ws ++ z :: rest) →
    a.btnStop = true → ticksIn ws = 49 →
    (∀ op ∈ operationsOf (ws.length + 1) s, op ≠ .reset ∧ op ≠ .runExpire) →
    z.rst = false → z.tick = true →
    ∃ t t' : State, runSteps (ws.length + 1) s = .next t ∧ step t = .next t' ∧
      t.ctrl = .running ∧ t.phase = .run ∧ t.valve = s.valve ∧ t.dbp = ⟨.settle, 1⟩ ∧ t'.dbp = ⟨.idle, 0⟩ ∧
      (z.btnStop = false → t.debounceOp .stop = .dbFire .stop ∧ t.performs = .runAbort ∧
        t'.ctrl = .selecting ∧ t'.valve = false ∧ t'.timeLeft = t.timeLeft ∧ t'.led = t.led) ∧
      (z.btnStop = true → t.debounceOp .stop = .dbReject .stop ∧
        t.performs ∈ [Instr.runExpire, .runTickStep, .runTickRound] ∧ t'.timeLeft = t.timeLeft - 1)

/-- R157: a run that is not aborted or reset counts exactly `max(INIT, 1)` ticks, whatever Stop does: no step of it performs
`RUN_ABORT` or `RESET`, be Stop never pressed, rejected, or still settling at the end. `g` is the input of the first check, whose
tick is not counted; through inputs `ws` with fewer ticks than that the valve stays as it is and `time_left` is `INIT` less the
ticks; the step `z` of the last tick ends the run with the valve closed and `led` as it was. -/
def Obligations.RunCountsItsTicks : Prop :=
  ∀ (s : State) (g : Input) (ws : List Input) (z : Input) (rest : List Input),
    s.ctrl = .running → s.phase = .first → s.timeLeft = initialTime s.runMode s.runTier →
    s.stimulus = g :: (ws ++ z :: rest) → z.tick = true →
    (∀ op ∈ operationsOf (ws.length + 2) s, op ≠ .runAbort ∧ op ≠ .reset) →
    (ticksIn ws : Int) + 1 ≤ max (initialTime s.runMode s.runTier).toInt 1 →
    ∃ t t' : State, runSteps (ws.length + 1) s = .next t ∧ step t = .next t' ∧
      t.ctrl = .running ∧ t.valve = s.valve ∧
      t.timeLeft.toInt = (initialTime s.runMode s.runTier).toInt - ticksIn ws ∧
      ((ticksIn ws : Int) + 1 < max (initialTime s.runMode s.runTier).toInt 1 → t'.ctrl = .running ∧ t'.valve = s.valve) ∧
      ((ticksIn ws : Int) + 1 = max (initialTime s.runMode s.runTier).toInt 1 →
        t.performs = .runExpire ∧ t'.ctrl = .selecting ∧ t'.valve = false ∧ t'.led = t.led ∧ t'.ledStb = false)

/-- R236: every run ends, for every stimulus (Stop pressed, settling, rejected or fired, and resets among it): from any state in
RUNNING past the first check, by the `max(time_left, 1)`-th tick; from the start step on, by the `max(INIT, 1)`-th tick after the
first check's step. In both the valve is then closed. -/
def Obligations.EveryRunEnds : Prop :=
  (∀ (s : State) (ws rest : List Input),
    s.ctrl = .running → s.phase = .run → s.stimulus = ws ++ rest → max s.timeLeft.toInt 1 ≤ ticksIn ws →
    ∃ (k : Nat) (t : State), k ≤ ws.length ∧ runSteps k s = .next t ∧ t.ctrl = .selecting ∧ t.valve = false) ∧
  ∀ (s : State) (a g : Input) (ws rest : List Input),
    s.performs = .selStart → s.stimulus = a :: g :: (ws ++ rest) →
    max (initialTime (Mode.ofBit a.mode) s.selTier).toInt 1 ≤ ticksIn ws →
    ∃ (k : Nat) (t : State), 1 < k ∧ k ≤ ws.length + 2 ∧ runSteps k s = .next t ∧
      t.ctrl = .selecting ∧ t.valve = false
end

