-- ==== Sys2Proof/Laws/State.lean ====
section
/-! SUPPORT. One lemma per field per update of State, so that no later proof unfolds a record update. -/

namespace Sys2Proof.Machine

/-! ### checkStep -/

@[simp] theorem State.checkStep_ctrl (ft : FtTable) (t : Ticks) (s : State) : (s.checkStep ft t).ctrl = s.ctrl := rfl
@[simp] theorem State.checkStep_phase (ft : FtTable) (t : Ticks) (s : State) : (s.checkStep ft t).phase = s.phase := rfl
@[simp] theorem State.checkStep_selTier (ft : FtTable) (t : Ticks) (s : State) : (s.checkStep ft t).selTier = s.selTier := rfl
@[simp] theorem State.checkStep_selValid (ft : FtTable) (t : Ticks) (s : State) : (s.checkStep ft t).selValid = s.selValid := rfl
@[simp] theorem State.checkStep_runTier (ft : FtTable) (t : Ticks) (s : State) : (s.checkStep ft t).runTier = s.runTier := rfl
@[simp] theorem State.checkStep_runMode (ft : FtTable) (t : Ticks) (s : State) : (s.checkStep ft t).runMode = s.runMode := rfl
@[simp] theorem State.checkStep_timeLeft (ft : FtTable) (t : Ticks) (s : State) : (s.checkStep ft t).timeLeft = s.timeLeft := rfl
@[simp] theorem State.checkStep_chkK (ft : FtTable) (t : Ticks) (s : State) : (s.checkStep ft t).chkK = prevCheck s.chkK := rfl
@[simp] theorem State.checkStep_led (ft : FtTable) (t : Ticks) (s : State) : (s.checkStep ft t).led = writeLedBit s.led s.chkK (checkBit ft s.runMode s.runTier s.chkK t) := rfl
@[simp] theorem State.checkStep_ledStb (ft : FtTable) (t : Ticks) (s : State) : (s.checkStep ft t).ledStb = true := rfl
@[simp] theorem State.checkStep_valve (ft : FtTable) (t : Ticks) (s : State) : (s.checkStep ft t).valve = s.valve := rfl
@[simp] theorem State.checkStep_dbs (ft : FtTable) (t : Ticks) (s : State) : (s.checkStep ft t).dbs = s.dbs := rfl
@[simp] theorem State.checkStep_dbp (ft : FtTable) (t : Ticks) (s : State) : (s.checkStep ft t).dbp = s.dbp := rfl
@[simp] theorem State.checkStep_q (ft : FtTable) (t : Ticks) (s : State) : (s.checkStep ft t).q = s.q := rfl
@[simp] theorem State.checkStep_startFire (ft : FtTable) (t : Ticks) (s : State) : (s.checkStep ft t).startFire = s.startFire := rfl
@[simp] theorem State.checkStep_stopFire (ft : FtTable) (t : Ticks) (s : State) : (s.checkStep ft t).stopFire = s.stopFire := rfl
@[simp] theorem State.checkStep_stimulus (ft : FtTable) (t : Ticks) (s : State) : (s.checkStep ft t).stimulus = s.stimulus := rfl
@[simp] theorem State.checkStep_drawn (ft : FtTable) (t : Ticks) (s : State) : (s.checkStep ft t).drawn = s.drawn := rfl

/-! ### checkRound -/

@[simp] theorem State.checkRound_ctrl (ft : FtTable) (t : Ticks) (s : State) : (s.checkRound ft t).ctrl = s.ctrl := rfl
@[simp] theorem State.checkRound_phase (ft : FtTable) (t : Ticks) (s : State) : (s.checkRound ft t).phase = s.phase := rfl
@[simp] theorem State.checkRound_selTier (ft : FtTable) (t : Ticks) (s : State) : (s.checkRound ft t).selTier = s.selTier := rfl
@[simp] theorem State.checkRound_selValid (ft : FtTable) (t : Ticks) (s : State) : (s.checkRound ft t).selValid = s.selValid := rfl
@[simp] theorem State.checkRound_runTier (ft : FtTable) (t : Ticks) (s : State) : (s.checkRound ft t).runTier = s.runTier := rfl
@[simp] theorem State.checkRound_runMode (ft : FtTable) (t : Ticks) (s : State) : (s.checkRound ft t).runMode = s.runMode := rfl
@[simp] theorem State.checkRound_timeLeft (ft : FtTable) (t : Ticks) (s : State) : (s.checkRound ft t).timeLeft = s.timeLeft := rfl
@[simp] theorem State.checkRound_chkK (ft : FtTable) (t : Ticks) (s : State) : (s.checkRound ft t).chkK = s.chkK := rfl
@[simp] theorem State.checkRound_led (ft : FtTable) (t : Ticks) (s : State) : (s.checkRound ft t).led = writeBar s.led (bar ft s.runMode s.runTier t) := rfl
@[simp] theorem State.checkRound_ledStb (ft : FtTable) (t : Ticks) (s : State) : (s.checkRound ft t).ledStb = true := rfl
@[simp] theorem State.checkRound_valve (ft : FtTable) (t : Ticks) (s : State) : (s.checkRound ft t).valve = s.valve := rfl
@[simp] theorem State.checkRound_dbs (ft : FtTable) (t : Ticks) (s : State) : (s.checkRound ft t).dbs = s.dbs := rfl
@[simp] theorem State.checkRound_dbp (ft : FtTable) (t : Ticks) (s : State) : (s.checkRound ft t).dbp = s.dbp := rfl
@[simp] theorem State.checkRound_q (ft : FtTable) (t : Ticks) (s : State) : (s.checkRound ft t).q = s.q := rfl
@[simp] theorem State.checkRound_startFire (ft : FtTable) (t : Ticks) (s : State) : (s.checkRound ft t).startFire = s.startFire := rfl
@[simp] theorem State.checkRound_stopFire (ft : FtTable) (t : Ticks) (s : State) : (s.checkRound ft t).stopFire = s.stopFire := rfl
@[simp] theorem State.checkRound_stimulus (ft : FtTable) (t : Ticks) (s : State) : (s.checkRound ft t).stimulus = s.stimulus := rfl
@[simp] theorem State.checkRound_drawn (ft : FtTable) (t : Ticks) (s : State) : (s.checkRound ft t).drawn = s.drawn := rfl

/-! ### closeRun -/

@[simp] theorem State.closeRun_ctrl (s : State) : (s.closeRun).ctrl = .selecting := rfl
@[simp] theorem State.closeRun_phase (s : State) : (s.closeRun).phase = .first := rfl
@[simp] theorem State.closeRun_selTier (s : State) : (s.closeRun).selTier = s.selTier := rfl
@[simp] theorem State.closeRun_selValid (s : State) : (s.closeRun).selValid = false := rfl
@[simp] theorem State.closeRun_runTier (s : State) : (s.closeRun).runTier = s.runTier := rfl
@[simp] theorem State.closeRun_runMode (s : State) : (s.closeRun).runMode = s.runMode := rfl
@[simp] theorem State.closeRun_timeLeft (s : State) : (s.closeRun).timeLeft = s.timeLeft := rfl
@[simp] theorem State.closeRun_chkK (s : State) : (s.closeRun).chkK = s.chkK := rfl
@[simp] theorem State.closeRun_led (s : State) : (s.closeRun).led = s.led := rfl
@[simp] theorem State.closeRun_ledStb (s : State) : (s.closeRun).ledStb = false := rfl
@[simp] theorem State.closeRun_valve (s : State) : (s.closeRun).valve = false := rfl
@[simp] theorem State.closeRun_dbs (s : State) : (s.closeRun).dbs = s.dbs := rfl
@[simp] theorem State.closeRun_dbp (s : State) : (s.closeRun).dbp = s.dbp := rfl
@[simp] theorem State.closeRun_q (s : State) : (s.closeRun).q = s.q := rfl
@[simp] theorem State.closeRun_startFire (s : State) : (s.closeRun).startFire = s.startFire := rfl
@[simp] theorem State.closeRun_stopFire (s : State) : (s.closeRun).stopFire = s.stopFire := rfl
@[simp] theorem State.closeRun_stimulus (s : State) : (s.closeRun).stimulus = s.stimulus := rfl
@[simp] theorem State.closeRun_drawn (s : State) : (s.closeRun).drawn = s.drawn := rfl

/-! ### driveQ -/

@[simp] theorem State.driveQ_ctrl (i : Tier) (s : State) : (s.driveQ i).ctrl = s.ctrl := rfl
@[simp] theorem State.driveQ_phase (i : Tier) (s : State) : (s.driveQ i).phase = s.phase := rfl
@[simp] theorem State.driveQ_selTier (i : Tier) (s : State) : (s.driveQ i).selTier = s.selTier := rfl
@[simp] theorem State.driveQ_selValid (i : Tier) (s : State) : (s.driveQ i).selValid = s.selValid := rfl
@[simp] theorem State.driveQ_runTier (i : Tier) (s : State) : (s.driveQ i).runTier = s.runTier := rfl
@[simp] theorem State.driveQ_runMode (i : Tier) (s : State) : (s.driveQ i).runMode = s.runMode := rfl
@[simp] theorem State.driveQ_timeLeft (i : Tier) (s : State) : (s.driveQ i).timeLeft = s.timeLeft := rfl
@[simp] theorem State.driveQ_chkK (i : Tier) (s : State) : (s.driveQ i).chkK = s.chkK := rfl
@[simp] theorem State.driveQ_led (i : Tier) (s : State) : (s.driveQ i).led = s.led := rfl
@[simp] theorem State.driveQ_ledStb (i : Tier) (s : State) : (s.driveQ i).ledStb = s.ledStb := rfl
@[simp] theorem State.driveQ_valve (i : Tier) (s : State) : (s.driveQ i).valve = s.valve := rfl
@[simp] theorem State.driveQ_dbs (i : Tier) (s : State) : (s.driveQ i).dbs = s.dbs := rfl
@[simp] theorem State.driveQ_dbp (i : Tier) (s : State) : (s.driveQ i).dbp = s.dbp := rfl
@[simp] theorem State.driveQ_q (i : Tier) (s : State) : (s.driveQ i).q = classOut i := rfl
@[simp] theorem State.driveQ_startFire (i : Tier) (s : State) : (s.driveQ i).startFire = s.startFire := rfl
@[simp] theorem State.driveQ_stopFire (i : Tier) (s : State) : (s.driveQ i).stopFire = s.stopFire := rfl
@[simp] theorem State.driveQ_stimulus (i : Tier) (s : State) : (s.driveQ i).stimulus = s.stimulus := rfl
@[simp] theorem State.driveQ_drawn (i : Tier) (s : State) : (s.driveQ i).drawn = s.drawn := rfl

/-! ### writeDb, start unit -/

@[simp] theorem State.writeDb_start_ctrl (d : Debouncer) (b : Bool) (s : State) : (s.writeDb .start d b).ctrl = s.ctrl := rfl
@[simp] theorem State.writeDb_start_phase (d : Debouncer) (b : Bool) (s : State) : (s.writeDb .start d b).phase = s.phase := rfl
@[simp] theorem State.writeDb_start_selTier (d : Debouncer) (b : Bool) (s : State) : (s.writeDb .start d b).selTier = s.selTier := rfl
@[simp] theorem State.writeDb_start_selValid (d : Debouncer) (b : Bool) (s : State) : (s.writeDb .start d b).selValid = s.selValid := rfl
@[simp] theorem State.writeDb_start_runTier (d : Debouncer) (b : Bool) (s : State) : (s.writeDb .start d b).runTier = s.runTier := rfl
@[simp] theorem State.writeDb_start_runMode (d : Debouncer) (b : Bool) (s : State) : (s.writeDb .start d b).runMode = s.runMode := rfl
@[simp] theorem State.writeDb_start_timeLeft (d : Debouncer) (b : Bool) (s : State) : (s.writeDb .start d b).timeLeft = s.timeLeft := rfl
@[simp] theorem State.writeDb_start_chkK (d : Debouncer) (b : Bool) (s : State) : (s.writeDb .start d b).chkK = s.chkK := rfl
@[simp] theorem State.writeDb_start_led (d : Debouncer) (b : Bool) (s : State) : (s.writeDb .start d b).led = s.led := rfl
@[simp] theorem State.writeDb_start_ledStb (d : Debouncer) (b : Bool) (s : State) : (s.writeDb .start d b).ledStb = s.ledStb := rfl
@[simp] theorem State.writeDb_start_valve (d : Debouncer) (b : Bool) (s : State) : (s.writeDb .start d b).valve = s.valve := rfl
@[simp] theorem State.writeDb_start_dbs (d : Debouncer) (b : Bool) (s : State) : (s.writeDb .start d b).dbs = d := rfl
@[simp] theorem State.writeDb_start_dbp (d : Debouncer) (b : Bool) (s : State) : (s.writeDb .start d b).dbp = s.dbp := rfl
@[simp] theorem State.writeDb_start_q (d : Debouncer) (b : Bool) (s : State) : (s.writeDb .start d b).q = s.q := rfl
@[simp] theorem State.writeDb_start_startFire (d : Debouncer) (b : Bool) (s : State) : (s.writeDb .start d b).startFire = b := rfl
@[simp] theorem State.writeDb_start_stopFire (d : Debouncer) (b : Bool) (s : State) : (s.writeDb .start d b).stopFire = s.stopFire := rfl
@[simp] theorem State.writeDb_start_stimulus (d : Debouncer) (b : Bool) (s : State) : (s.writeDb .start d b).stimulus = s.stimulus := rfl
@[simp] theorem State.writeDb_start_drawn (d : Debouncer) (b : Bool) (s : State) : (s.writeDb .start d b).drawn = s.drawn := rfl

/-! ### writeDb, stop unit -/

@[simp] theorem State.writeDb_stop_ctrl (d : Debouncer) (b : Bool) (s : State) : (s.writeDb .stop d b).ctrl = s.ctrl := rfl
@[simp] theorem State.writeDb_stop_phase (d : Debouncer) (b : Bool) (s : State) : (s.writeDb .stop d b).phase = s.phase := rfl
@[simp] theorem State.writeDb_stop_selTier (d : Debouncer) (b : Bool) (s : State) : (s.writeDb .stop d b).selTier = s.selTier := rfl
@[simp] theorem State.writeDb_stop_selValid (d : Debouncer) (b : Bool) (s : State) : (s.writeDb .stop d b).selValid = s.selValid := rfl
@[simp] theorem State.writeDb_stop_runTier (d : Debouncer) (b : Bool) (s : State) : (s.writeDb .stop d b).runTier = s.runTier := rfl
@[simp] theorem State.writeDb_stop_runMode (d : Debouncer) (b : Bool) (s : State) : (s.writeDb .stop d b).runMode = s.runMode := rfl
@[simp] theorem State.writeDb_stop_timeLeft (d : Debouncer) (b : Bool) (s : State) : (s.writeDb .stop d b).timeLeft = s.timeLeft := rfl
@[simp] theorem State.writeDb_stop_chkK (d : Debouncer) (b : Bool) (s : State) : (s.writeDb .stop d b).chkK = s.chkK := rfl
@[simp] theorem State.writeDb_stop_led (d : Debouncer) (b : Bool) (s : State) : (s.writeDb .stop d b).led = s.led := rfl
@[simp] theorem State.writeDb_stop_ledStb (d : Debouncer) (b : Bool) (s : State) : (s.writeDb .stop d b).ledStb = s.ledStb := rfl
@[simp] theorem State.writeDb_stop_valve (d : Debouncer) (b : Bool) (s : State) : (s.writeDb .stop d b).valve = s.valve := rfl
@[simp] theorem State.writeDb_stop_dbs (d : Debouncer) (b : Bool) (s : State) : (s.writeDb .stop d b).dbs = s.dbs := rfl
@[simp] theorem State.writeDb_stop_dbp (d : Debouncer) (b : Bool) (s : State) : (s.writeDb .stop d b).dbp = d := rfl
@[simp] theorem State.writeDb_stop_q (d : Debouncer) (b : Bool) (s : State) : (s.writeDb .stop d b).q = s.q := rfl
@[simp] theorem State.writeDb_stop_startFire (d : Debouncer) (b : Bool) (s : State) : (s.writeDb .stop d b).startFire = s.startFire := rfl
@[simp] theorem State.writeDb_stop_stopFire (d : Debouncer) (b : Bool) (s : State) : (s.writeDb .stop d b).stopFire = b := rfl
@[simp] theorem State.writeDb_stop_stimulus (d : Debouncer) (b : Bool) (s : State) : (s.writeDb .stop d b).stimulus = s.stimulus := rfl
@[simp] theorem State.writeDb_stop_drawn (d : Debouncer) (b : Bool) (s : State) : (s.writeDb .stop d b).drawn = s.drawn := rfl

/-! ### advance -/

@[simp] theorem State.advance_toRegs (s : State) : s.advance.toRegs = s.toRegs := by
  unfold State.advance; split <;> rfl

@[simp] theorem State.advance_q (s : State) : s.advance.q = s.q := by
  unfold State.advance; split <;> rfl

@[simp] theorem State.advance_startFire (s : State) : s.advance.startFire = s.startFire := by
  unfold State.advance; split <;> rfl

@[simp] theorem State.advance_stopFire (s : State) : s.advance.stopFire = s.stopFire := by
  unfold State.advance; split <;> rfl

@[simp] theorem State.advance_stimulus (s : State) : s.advance.stimulus = s.stimulus.tail := by
  unfold State.advance; split <;> simp_all

/-! ### the input at the ports -/

theorem State.input_cons (s : State) (i : Input) (rest : List Input) (h : s.stimulus = i :: rest) : s.input = i := by
  simp [State.input, h]

/-- The input depends on the model's input fields only. -/
theorem State.input_congr (s t : State) (h : s.stimulus = t.stimulus) (hd : s.drawn = t.drawn) : s.input = t.input := by
  simp [State.input, h, hd]

@[simp] theorem State.writeDb_input (u : DbUnit) (d : Debouncer) (b : Bool) (s : State) :
    (s.writeDb u d b).input = s.input := by
  cases u <;> rfl

@[simp] theorem State.driveQ_input (i : Tier) (s : State) : (s.driveQ i).input = s.input := rfl

end Sys2Proof.Machine
end

