-- ==== Sys2Proof/Laws/Ops.lean ====
section
/-! SUPPORT. One lemma per shared function that says all it can do: the condition signals, the tables, the LED writes. -/

namespace Sys2Proof.Machine

/-! ### Condition signals -/

theorem comparators_getLsbD (sample : Sample) (i : Fin 8) :
    (comparators sample).getLsbD i.val = decide (Config.thresholds[i] < sample) := by
  simp [comparators]

/-- Last match wins: no bit above the tier is set, and the tier's bit is set unless the tier is 0. -/
theorem tierOf_spec : ∀ c : CompareWord,
    (tierOf c = 0 ∨ c.getLsbD (tierOf c).val = true) ∧ ∀ j : Tier, tierOf c < j → c.getLsbD j.val = false := by
  decide

/-- The class row that format Q selects has the tier of the priority encoder. -/
theorem exec_decodeQuantizer (c : CompareWord) (s : State) :
    exec (decodeQuantizer c) s = .next (s.driveQ (tierOf c)) := by
  have key : ∀ c : CompareWord, decodeQuantizer c =
      [Instr.qTier0, .qTier1, .qTier2, .qTier3, .qTier4, .qTier5, .qTier6, .qTier7].getD (tierOf c).val .qTier0 := by
    decide
  rw [key]
  generalize tierOf c = i
  fin_cases i <;> rfl

theorem expireOf_eq (t : Ticks) : expireOf t = decide (t.toInt ≤ 1) := by
  simp [expireOf, BitVec.sle]

theorem lastOf_eq (cnt : SettleCount) : lastOf cnt = decide (cnt.toNat ≤ 1) := by
  simp [lastOf, BitVec.le_def]

theorem styleOf_eq_true (m : Mode) (i : Tier) : styleOf m i = true ↔ m = .proportional ∨ i = 7 := by
  simp [styleOf]

theorem styleOf_eq_false (m : Mode) (i : Tier) : styleOf m i = false ↔ m = .fixedTable ∧ i ≠ 7 := by
  cases m <;> simp [styleOf]

/-! ### Time and thresholds -/

theorem checkBit_eq (ft : FtTable) (m : Mode) (i : Tier) (k : CheckNo) (t : Ticks) :
    checkBit ft m i k t = decide ((threshold ft m i k).toInt < t.toInt) := by
  simp [checkBit, BitVec.slt]

theorem bar_getLsbD (ft : FtTable) (m : Mode) (i : Tier) (t : Ticks) (j : Fin 7) :
    (bar ft m i t).getLsbD j.val = decide ((threshold ft m i j.succ).toInt < t.toInt) := by
  simp [bar, checkBit_eq]

/-- The decrement is exact unless the register holds the least 16-bit value. -/
theorem sub_one_toInt (t : Ticks) (h : -32768 < t.toInt) : (t - 1).toInt = t.toInt - 1 := by
  rw [BitVec.toInt_sub, show (1 : Ticks).toInt = 1 from rfl, Int.bmod_eq_of_le] <;>
    have := t.toInt_lt <;> omega

theorem State.nextTime_toInt (s : State) (h : -32768 < s.timeLeft.toInt) :
    s.nextTime.toInt = s.timeLeft.toInt - 1 :=
  sub_one_toInt _ h

theorem initialTime_nonneg (m : Mode) (i : Tier) : 0 ≤ (initialTime m i).toInt := by
  cases m <;> revert i <;> decide

/-! ### LED writes and the check counter -/

theorem writeLedBit_getLsbD (led : LedPattern) (k : CheckNo) (b : Bool) (j : Nat) (hj : j < 8) :
    (writeLedBit led k b).getLsbD j = if j + 1 = k.val then b else led.getLsbD j := by
  cases b <;> fin_cases k <;> interval_cases j <;> simp [writeLedBit]

/-- No check writes bit 7. -/
theorem writeLedBit_top (led : LedPattern) (k : CheckNo) (b : Bool) :
    (writeLedBit led k b).getLsbD 7 = led.getLsbD 7 := by
  rw [writeLedBit_getLsbD led k b 7 (by omega), if_neg]
  have := k.isLt
  omega

theorem writeBar_getLsbD (led : LedPattern) (b : BitVec 7) (j : Fin 7) :
    (writeBar led b).getLsbD j.val = b.getLsbD j.val := by
  fin_cases j <;> simp [writeBar]

theorem writeBar_top (led : LedPattern) (b : BitVec 7) : (writeBar led b).getLsbD 7 = led.getLsbD 7 := by
  simp [writeBar]

theorem prevCheck_range : ∀ k : CheckNo, 1 ≤ (prevCheck k).val ∧ (prevCheck k).val ≤ 7 := by
  decide

/-- The next check's number, for the checks that occur. -/
theorem prevCheck_val : ∀ k : CheckNo, 1 ≤ k.val →
    ((prevCheck k).val : Int) = if k.val = 1 then 7 else (k.val : Int) - 1 := by
  decide

/-! ### Sequencing -/

@[simp] theorem andThen_next (s : State) (f : State → Result) : andThen (.next s) f = f s := rfl

end Sys2Proof.Machine
end

