-- ==== Sys2Proof/Laws/PerInstr.lean ====
section
/-! SUPPORT. A family of statements made per operation: its row of spec/opcode_table.json is sound. -/

namespace Sys2Proof.Laws.RowSound

/-- The `match` value of a row, as a number. -/
def rowValue (i : Instr) : Nat :=
  match encode i with
  | .main w => w.toNat
  | .debounce _ w => w.toNat
  | .quantizer c => c.toNat

/-- How many bits the operation's format has (spec/30_encoding.md R81 to R83). -/
def formatBits (i : Instr) : Nat :=
  match encode i with
  | .main _ => 10
  | .debounce _ _ => 6
  | .quantizer _ => 8

/-- The operation is well formed, its `match` has no bit outside its `mask`, and its `mask` none outside its format. -/
def Statement (i : Instr) : Prop :=
  i.wellFormed = true ∧ rowValue i &&& rowMask i = rowValue i ∧ rowMask i < 2 ^ formatBits i

theorem reset : Statement .reset := ⟨rfl, rfl, by decide⟩
theorem selStart : Statement .selStart := ⟨rfl, rfl, by decide⟩
theorem selSample : Statement .selSample := ⟨rfl, rfl, by decide⟩
theorem selDrop : Statement .selDrop := ⟨rfl, rfl, by decide⟩
theorem selIdle : Statement .selIdle := ⟨rfl, rfl, by decide⟩
theorem runAbort : Statement .runAbort := ⟨rfl, rfl, by decide⟩
theorem runFirstStep : Statement .runFirstStep := ⟨rfl, rfl, by decide⟩
theorem runFirstRound : Statement .runFirstRound := ⟨rfl, rfl, by decide⟩
theorem runExpire : Statement .runExpire := ⟨rfl, rfl, by decide⟩
theorem runTickStep : Statement .runTickStep := ⟨rfl, rfl, by decide⟩
theorem runTickRound : Statement .runTickRound := ⟨rfl, rfl, by decide⟩
theorem runWait : Statement .runWait := ⟨rfl, rfl, by decide⟩
theorem qTier7 : Statement .qTier7 := ⟨rfl, rfl, by decide⟩
theorem qTier6 : Statement .qTier6 := ⟨rfl, rfl, by decide⟩
theorem qTier5 : Statement .qTier5 := ⟨rfl, rfl, by decide⟩
theorem qTier4 : Statement .qTier4 := ⟨rfl, rfl, by decide⟩
theorem qTier3 : Statement .qTier3 := ⟨rfl, rfl, by decide⟩
theorem qTier2 : Statement .qTier2 := ⟨rfl, rfl, by decide⟩
theorem qTier1 : Statement .qTier1 := ⟨rfl, rfl, by decide⟩
theorem qTier0 : Statement .qTier0 := ⟨rfl, rfl, by decide⟩

theorem dbReset (u : DbUnit) : Statement (.dbReset u) := by cases u <;> exact ⟨rfl, rfl, by decide⟩
theorem dbDisabled (u : DbUnit) : Statement (.dbDisabled u) := by cases u <;> exact ⟨rfl, rfl, by decide⟩
theorem dbIdle (u : DbUnit) : Statement (.dbIdle u) := by cases u <;> exact ⟨rfl, rfl, by decide⟩
theorem dbArm (u : DbUnit) : Statement (.dbArm u) := by cases u <;> exact ⟨rfl, rfl, by decide⟩
theorem dbHold (u : DbUnit) : Statement (.dbHold u) := by cases u <;> exact ⟨rfl, rfl, by decide⟩
theorem dbCount (u : DbUnit) : Statement (.dbCount u) := by cases u <;> exact ⟨rfl, rfl, by decide⟩
theorem dbFire (u : DbUnit) : Statement (.dbFire u) := by cases u <;> exact ⟨rfl, rfl, by decide⟩
theorem dbReject (u : DbUnit) : Statement (.dbReject u) := by cases u <;> exact ⟨rfl, rfl, by decide⟩

end Sys2Proof.Laws.RowSound
end

