-- ==== Sys2Proof/Laws/Step.lean ====
section
/-! SUPPORT. What a step is made of, said once: the operation each debouncer performs and what it writes, the operation the
main unit performs, and the step as the main unit's operation on a state whose debouncers have stepped. -/

namespace Sys2Proof.Machine

/-! ### Which operation is selected -/

/-- The bits of a word assembled as `WD` is. -/
theorem debounceWord_bits : ∀ a b c d e f : Bool,
    let w : DebounceWord := BitVec.ofBool a ++ BitVec.ofBool b ++ BitVec.ofBool c ++ BitVec.ofBool d
      ++ BitVec.ofBool e ++ BitVec.ofBool f
    w.getLsbD 5 = a ∧ w.getLsbD 4 = b ∧ w.getLsbD 3 = c ∧ w.getLsbD 2 = d ∧ w.getLsbD 1 = e ∧ w.getLsbD 0 = f := by
  decide

/-- The bits of a word assembled as `WM` is. -/
theorem mainWord_bits : ∀ a b c d e f g h i j : Bool,
    let w : MainWord := BitVec.ofBool a ++ BitVec.ofBool b ++ BitVec.ofBool c ++ BitVec.ofBool d
      ++ BitVec.ofBool e ++ BitVec.ofBool f ++ BitVec.ofBool g ++ BitVec.ofBool h ++ BitVec.ofBool i ++ BitVec.ofBool j
    (w.getLsbD 9 = a ∧ w.getLsbD 8 = b ∧ w.getLsbD 7 = c ∧ w.getLsbD 6 = d ∧ w.getLsbD 5 = e) ∧
      w.getLsbD 4 = f ∧ w.getLsbD 3 = g ∧ w.getLsbD 2 = h ∧ w.getLsbD 1 = i ∧ w.getLsbD 0 = j := by
  decide

theorem State.debounceOp_eq (s : State) (u : DbUnit) :
    s.debounceOp u =
      if s.input.rst then .dbReset u
      else if s.enable u then
        if (s.db u).state = .settle then
          if s.input.tick then
            if lastOf (s.db u).cnt then
              if buttonOf s.input u then .dbReject u else .dbFire u
            else .dbCount u
          else .dbHold u
        else if buttonOf s.input u then .dbArm u else .dbIdle u
      else .dbDisabled u := by
  obtain ⟨h5, h4, h3, h2, h1, h0⟩ := debounceWord_bits s.input.rst (s.enable u) ((s.db u).state == .settle)
    (buttonOf s.input u) s.input.tick (lastOf (s.db u).cnt)
  simp only [State.debounceOp, decode, decodeDebounce, State.debounceWord, h5, h4, h3, h2, h1, h0, beq_iff_eq]

theorem State.mainOp_eq (s : State) (fs fp : Bool) :
    s.mainOp fs fp =
      if s.input.rst then .reset
      else if s.ctrl = .running then
        if fp then .runAbort
        else if s.phase = .run then
          if s.input.tick then
            if expireOf s.timeLeft then .runExpire
            else if styleOf s.runMode s.runTier then .runTickStep else .runTickRound
          else .runWait
        else if styleOf s.runMode s.runTier then .runFirstStep else .runFirstRound
      else if fs then .selStart
      else if s.input.sampleValid then
        if s.dbs.state = .settle then .selDrop else .selSample
      else .selIdle := by
  obtain ⟨⟨h9, h8, h7, h6, h5⟩, h4, h3, h2, h1, h0⟩ := mainWord_bits s.input.rst (s.ctrl == .running) (s.phase == .run)
    (styleOf s.runMode s.runTier) fp fs (s.dbs.state == .settle) s.input.sampleValid s.input.tick (expireOf s.timeLeft)
  simp only [State.mainOp, decode, decodeMain, State.mainWord, h9, h8, h7, h6, h5, h4, h3, h2, h1, h0, State.frz,
    beq_iff_eq]

/-! ### What a debouncer does in a step -/

/-- The registers of debouncer `u` after a step from `s`. -/
def State.dbNext (s : State) (u : DbUnit) : Debouncer :=
  if s.input.rst = false ∧ s.enable u = true then
    if (s.db u).state = .settle then
      if s.input.tick then
        if lastOf (s.db u).cnt then Debouncer.cleared else ⟨(s.db u).state, (s.db u).cnt - 1⟩
      else s.db u
    else if buttonOf s.input u then ⟨.settle, Config.settle⟩ else s.db u
  else Debouncer.cleared

/-- The fire signal of debouncer `u` in a step from `s`. -/
def State.fires (s : State) (u : DbUnit) : Bool :=
  !s.input.rst && s.enable u && (s.db u).state == .settle && s.input.tick && lastOf (s.db u).cnt
    && !buttonOf s.input u

theorem State.fires_eq (s : State) (u : DbUnit) : s.fires u = decide (s.debounceOp u = .dbFire u) := by
  rw [State.debounceOp_eq, State.fires]
  cases s.input.rst <;> cases s.enable u <;> cases (s.db u).state <;> cases s.input.tick <;>
    cases lastOf (s.db u).cnt <;> cases buttonOf s.input u <;> simp

/-- A debouncer's operation, selected in `s`, performed in a state with the same registers for that unit. -/
theorem exec_debounceOp (s t : State) (u : DbUnit) (h : t.db u = s.db u) :
    exec (s.debounceOp u) t = .next (t.writeDb u (s.dbNext u) (s.fires u)) := by
  rw [State.debounceOp_eq, State.dbNext, State.fires]
  cases s.input.rst <;> cases s.enable u <;> rcases h2 : (s.db u).state with _ | _ <;> cases s.input.tick <;>
    cases lastOf (s.db u).cnt <;> cases buttonOf s.input u <;>
    simp [show (DbState.idle == DbState.settle) = false from rfl, exec, execDbReset, execDbDisabled, execDbIdle, execDbArm, execDbHold, execDbCount, execDbFire,
      execDbReject, h, h2]

/-! ### The step -/

/-- The state in which the main unit's operation is performed: both debouncers and the quantizer have been evaluated. -/
def State.settled (s : State) : State :=
  ((s.writeDb .start (s.dbNext .start) (s.fires .start)).writeDb .stop (s.dbNext .stop) (s.fires .stop)).driveQ
    (tierOf (comparators s.input.sample))

@[simp] theorem State.settled_input (s : State) : s.settled.input = s.input := rfl
@[simp] theorem State.settled_toRegs (s : State) :
    s.settled.toRegs = { s.toRegs with dbs := s.dbNext .start, dbp := s.dbNext .stop } := rfl
@[simp] theorem State.settled_stimulus (s : State) : s.settled.stimulus = s.stimulus := rfl
@[simp] theorem State.settled_drawn (s : State) : s.settled.drawn = s.drawn := rfl
@[simp] theorem State.settled_q (s : State) :
    s.settled.q = classOut (tierOf (comparators s.input.sample)) := rfl
@[simp] theorem State.settled_startFire (s : State) : s.settled.startFire = s.fires .start := rfl
@[simp] theorem State.settled_stopFire (s : State) : s.settled.stopFire = s.fires .stop := rfl

/-- The operation of the main unit in a step from `s`. -/
def State.stepOp (s : State) : Instr := s.mainOp (s.fires .start) (s.fires .stop)

/-- A step is the main unit's operation on the settled state, and then the next input. -/
theorem step_eq (s : State) : step s = andThen (exec s.stepOp s.settled) fun t => .next t.advance := by
  have h1 := exec_debounceOp s s .start rfl
  have h2 := exec_debounceOp s (s.writeDb .start (s.dbNext .start) (s.fires .start)) .stop rfl
  have h3 := fun t => exec_decodeQuantizer (comparators s.input.sample) t
  simp only [step, State.clockEdge, h1, h2, h3, State.quantizerOp, decode, andThen_next]
  rfl

/-- What the main unit's operation leaves on the settled state, the step leaves but for the input. -/
theorem step_of_exec (s t : State) (h : exec s.stepOp s.settled = .next t) : step s = .next t.advance := by
  rw [step_eq, h]
  rfl

/-- The operation that `performs` names is the one the step runs. -/
theorem State.performs_eq (s : State) : s.performs = s.stepOp := by
  simp only [State.performs, State.stepOp, State.fires_eq]
  congr 1

/-- Everything a step can do: the operation performed, the condition under which it is, and the state its main-unit operation
leaves (in which both debouncers and the quantizer's outputs have been written). -/
inductive StepCase (s : State) : Instr → State → Prop where
  | reset (hr : s.input.rst = true) :
      StepCase s .reset { s.settled with toRegs := { Regs.reset with dbs := s.settled.dbs, dbp := s.settled.dbp } }
  | runAbort (hr : s.input.rst = false) (hc : s.ctrl = .running) (hf : s.fires .stop = true) :
      StepCase s .runAbort s.settled.closeRun
  | runExpire (hr : s.input.rst = false) (hc : s.ctrl = .running) (hf : s.fires .stop = false)
      (hp : s.phase = .run) (ht : s.input.tick = true) (he : s.timeLeft.toInt ≤ 1) :
      StepCase s .runExpire { s.settled.closeRun with timeLeft := s.nextTime }
  | runTickStep (hr : s.input.rst = false) (hc : s.ctrl = .running) (hf : s.fires .stop = false)
      (hp : s.phase = .run) (ht : s.input.tick = true) (he : 1 < s.timeLeft.toInt)
      (hs : styleOf s.runMode s.runTier = true) :
      StepCase s .runTickStep { s.settled.checkStep Config.ftThr s.nextTime with timeLeft := s.nextTime }
  | runTickRound (hr : s.input.rst = false) (hc : s.ctrl = .running) (hf : s.fires .stop = false)
      (hp : s.phase = .run) (ht : s.input.tick = true) (he : 1 < s.timeLeft.toInt)
      (hs : styleOf s.runMode s.runTier = false) :
      StepCase s .runTickRound { s.settled.checkRound Config.ftThr s.nextTime with timeLeft := s.nextTime }
  | runWait (hr : s.input.rst = false) (hc : s.ctrl = .running) (hf : s.fires .stop = false)
      (hp : s.phase = .run) (ht : s.input.tick = false) :
      StepCase s .runWait { s.settled with ledStb := false }
  | runFirstStep (hr : s.input.rst = false) (hc : s.ctrl = .running) (hf : s.fires .stop = false)
      (hp : s.phase = .first) (hs : styleOf s.runMode s.runTier = true) :
      StepCase s .runFirstStep { s.settled.checkStep Config.ftThr s.timeLeft with phase := .run }
  | runFirstRound (hr : s.input.rst = false) (hc : s.ctrl = .running) (hf : s.fires .stop = false)
      (hp : s.phase = .first) (hs : styleOf s.runMode s.runTier = false) :
      StepCase s .runFirstRound { s.settled.checkRound Config.ftThr s.timeLeft with phase := .run }
  | selStart (hr : s.input.rst = false) (hc : s.ctrl = .selecting) (hf : s.fires .start = true) :
      StepCase s .selStart { s.settled with
        runTier := s.selTier
        runMode := Mode.ofBit s.input.mode
        timeLeft := initialTime (Mode.ofBit s.input.mode) s.selTier
        chkK := 7
        phase := .first
        valve := true
        ctrl := .running
        ledStb := false }
  | selSample (hr : s.input.rst = false) (hc : s.ctrl = .selecting) (hf : s.fires .start = false)
      (hv : s.input.sampleValid = true) (hd : s.dbs.state = .idle) :
      StepCase s .selSample { s.settled with
        selTier := tierOf (comparators s.input.sample)
        selValid := true
        led := Config.patterns[tierOf (comparators s.input.sample)]
        ledStb := true }
  | selDrop (hr : s.input.rst = false) (hc : s.ctrl = .selecting) (hf : s.fires .start = false)
      (hv : s.input.sampleValid = true) (hd : s.dbs.state = .settle) :
      StepCase s .selDrop { s.settled with ledStb := false }
  | selIdle (hr : s.input.rst = false) (hc : s.ctrl = .selecting) (hf : s.fires .start = false)
      (hv : s.input.sampleValid = false) :
      StepCase s .selIdle { s.settled with ledStb := false }

/-- The case a state is in. -/
theorem stepCase_exists (s : State) :
    ∃ u, StepCase s s.performs u ∧ exec s.stepOp s.settled = .next u := by
  rw [State.performs_eq, State.stepOp, State.mainOp_eq]
  rcases hr : s.input.rst with _ | _
  · rcases hc : s.ctrl with _ | _
    · rcases hf : s.fires .start with _ | _
      · rcases hv : s.input.sampleValid with _ | _
        · exact ⟨_, .selIdle hr hc hf hv, rfl⟩
        · rcases hd : s.dbs.state with _ | _
          · exact ⟨_, .selSample hr hc hf hv hd, rfl⟩
          · exact ⟨_, .selDrop hr hc hf hv hd, rfl⟩
      · exact ⟨_, .selStart hr hc hf, rfl⟩
    · rcases hf : s.fires .stop with _ | _
      · rcases hp : s.phase with _ | _
        · rcases hs : styleOf s.runMode s.runTier with _ | _
          · exact ⟨_, .runFirstRound hr hc hf hp hs, rfl⟩
          · exact ⟨_, .runFirstStep hr hc hf hp hs, rfl⟩
        · rcases ht : s.input.tick with _ | _
          · exact ⟨_, .runWait hr hc hf hp ht, rfl⟩
          · by_cases he : s.timeLeft.toInt ≤ 1
            · have h : expireOf s.timeLeft = true := by simp [expireOf_eq, he]
              rw [h]
              exact ⟨_, .runExpire hr hc hf hp ht he, rfl⟩
            · have h : expireOf s.timeLeft = false := by simp [expireOf_eq]; omega
              rw [h]
              rcases hs : styleOf s.runMode s.runTier with _ | _
              · exact ⟨_, .runTickRound hr hc hf hp ht (by omega) hs, rfl⟩
              · exact ⟨_, .runTickStep hr hc hf hp ht (by omega) hs, rfl⟩
      · exact ⟨_, .runAbort hr hc hf, rfl⟩
  · exact ⟨_, .reset hr, rfl⟩

/-- If a step answers `t`, one of the cases holds and `t` is its state with the next input at the ports. -/
theorem step_case {s t : State} (h : step s = .next t) :
    ∃ op u, s.performs = op ∧ StepCase s op u ∧ t = u.advance := by
  obtain ⟨u, hc, he⟩ := stepCase_exists s
  rw [step_eq, he] at h
  injection h with h
  exact ⟨_, u, rfl, hc, h.symm⟩

end Sys2Proof.Machine
end

