-- ==== Sys2Proof/Laws/Run.lean ====
section
/-! SUPPORT. Runs of several steps: the first step and the rest, the last step and what came before; no step stops;
the operations of a run. -/

namespace Sys2Proof.Machine

theorem runSteps_zero (s : State) : runSteps 0 s = .next s := rfl

theorem runSteps_succ (n : Nat) (s : State) : runSteps (n + 1) s = andThen (step s) (runSteps n) := by
  refine (Host.Core.run.eq_2 Sys2Proof.core s n).trans ?_
  rcases h : step s with s' | r | r
  · rw [show Sys2Proof.core.step s = .next s' from h]
    rfl
  · rw [show Sys2Proof.core.step s = .fault r from h]
    rfl
  · rw [show Sys2Proof.core.step s = .refused r from h]
    rfl

/-- The case a state is in, with the step's answer. -/
theorem step_next (s : State) : ∃ u, StepCase s s.performs u ∧ step s = .next u.advance := by
  obtain ⟨u, hc, he⟩ := stepCase_exists s
  exact ⟨u, hc, step_of_exec s u he⟩

/-- A run of `n + 1` steps is a run of `n` steps and a last step. -/
theorem runSteps_last {n : Nat} {s t : State} (h : runSteps (n + 1) s = .next t) :
    ∃ m, runSteps n s = .next m ∧ step m = .next t := by
  induction n generalizing s with
  | zero =>
    obtain ⟨u, -, he⟩ := step_next s
    rw [runSteps_succ, he] at h
    exact ⟨s, rfl, he.trans h⟩
  | succ n ih =>
    obtain ⟨u, -, he⟩ := step_next s
    rw [runSteps_succ, he] at h
    obtain ⟨m, h1, h2⟩ := ih h
    exact ⟨m, by rw [runSteps_succ, he]; exact h1, h2⟩

/-- The operations of `n + 1` steps: the first step's and those of the rest. -/
theorem operationsOf_succ {n : Nat} {s t : State} (h : step s = .next t) :
    operationsOf (n + 1) s = s.performs :: operationsOf n t := by
  simp [operationsOf, h]

/-- The operations of a run in two parts. -/
theorem operationsOf_add {m n : Nat} {s t : State} (h : runSteps m s = .next t) :
    operationsOf (m + n) s = operationsOf m s ++ operationsOf n t := by
  induction m generalizing s with
  | zero =>
    obtain rfl : s = t := by injection h
    simp [operationsOf]
  | succ m ih =>
    obtain ⟨u, -, he⟩ := step_next s
    rw [runSteps_succ, he] at h
    rw [Nat.add_right_comm, operationsOf_succ he, operationsOf_succ he, ih h, List.cons_append]

/-! ### What every case of a step does to the fields that no main-unit operation writes -/

theorem StepCase.stimulus_eq {s u : State} {op : Instr} (h : StepCase s op u) : u.stimulus = s.stimulus := by
  cases h <;> rfl

theorem StepCase.debouncers_eq {s u : State} {op : Instr} (h : StepCase s op u) :
    u.dbs = s.dbNext .start ∧ u.dbp = s.dbNext .stop ∧ u.startFire = s.fires .start ∧ u.stopFire = s.fires .stop := by
  cases h <;> exact ⟨rfl, rfl, rfl, rfl⟩

end Sys2Proof.Machine
end

