-- ==== Sys2Proof/Tests/Slice0.lean ====
section
/-! SUPPORT. Small tests. Expected values are those of spec/95_test_vectors.md (the vector's name stands before the test) or
are read from the rule named; and one witness for each statement with hypotheses. -/

namespace Sys2Proof.Tests

open Sys2Proof.Machine

/-! ### Helpers -/

/-- What the decoder on bytes answers, as a decidable thing. -/
def gives (kind : Kind) (bytes : List Byte) : Option Instr × Option DecodeError :=
  match decodeBytes kind bytes with
  | .ok i => (some i, none)
  | .error e => (none, some e)

/-- The registers after an outcome. -/
def regsOf : Result → Option Regs
  | .next s => some s.toRegs
  | .fault _ => none
  | .refused _ => none

/-- The quantizer's outputs and the fire signals after an outcome. -/
def linesOf : Result → Option (QOut × Bool × Bool)
  | .next s => some (s.q, s.startFire, s.stopFire)
  | .fault _ => none
  | .refused _ => none

abbrev idle : Debouncer := ⟨.idle, 0⟩

abbrev settle (n : SettleCount) : Debouncer := ⟨.settle, n⟩

/-- Registers in SELECTING (no run before, both debouncers as given). -/
def sel (tier : Tier) (valid : Bool) (led : LedPattern) (stb : Bool) (dbs : Debouncer) : Regs :=
  { Regs.reset with selTier := tier, selValid := valid, led := led, ledStb := stb, dbs := dbs }

/-- Registers in RUNNING. -/
def run (phase : Phase) (mode : Mode) (tier : Tier) (time : Ticks) (k : CheckNo) (led : LedPattern) (dbp : Debouncer) :
    Regs where
  ctrl := .running
  phase := phase
  selTier := tier
  selValid := true
  runTier := tier
  runMode := mode
  timeLeft := time
  chkK := k
  led := led
  ledStb := true
  valve := true
  dbs := idle
  dbp := dbp

/-- A state with these registers and the `IN` words to come. -/
def at_ (r : Regs) (ins : List InWord) : State :=
  { State.reset with toRegs := r, stimulus := ins.map decodeInput }

/-- The registers after one step. -/
def after (r : Regs) (w : InWord) : Option Regs := regsOf (step (at_ r [w]))

/-- The vectors' example table, `FT_EX`. -/
def ftEx : List (List Int) :=
  [[0, 0, 0, 0, 0, 0, 0], [5, 10, 20, 30, 40, 50, 55], [10, 20, 30, 40, 50, 60, 70], [10, 20, 30, 40, 50, 60, 70],
   [10, 20, 30, 40, 50, 60, 70], [10, 20, 30, 40, 50, 60, 70], [10, 20, 30, 40, 50, 60, 70],
   [100, 300, 500, 800, 1000, 1300, 1500]]

/-! ### Well-formedness and rejections -/

theorem test_ftEx_wellFormed : ftRowsWellFormed ftEx = true := by decide
theorem test_ft_negative_entry_refused : ftEntryWellFormed (-1) = false := by decide
theorem test_ft_large_entry_refused : ftEntryWellFormed 32768 = false ∧ ftEntryWellFormed 32767 = true := by decide
theorem test_ft_row_zero_refused : ftRowsWellFormed ([1, 0, 0, 0, 0, 0, 0] :: ftEx.tail) = false := by decide
theorem test_ft_short_row_refused : ftRowsWellFormed ([0, 0, 0, 0, 0, 0] :: ftEx.tail) = false := by decide
theorem test_ft_seven_rows_refused : ftRowsWellFormed (ftEx.take 7) = false := by decide
theorem test_script_sample_refused : (Line.cyc false false (some 1024)).wellFormed = false := by decide
theorem test_script_sample_accepted : (Line.cyc false false (some 1023)).wellFormed = true := by decide
theorem test_bytes_too_few : gives .main [0x00] = (none, some .wrongLength) := by decide
theorem test_bytes_too_many : gives .quantizer [0x00, 0x00] = (none, some .wrongLength) := by decide
theorem test_bytes_none : gives (.debounce .stop) [] = (none, some .wrongLength) := by decide
theorem test_main_bit_ten : gives .main [0x00, 0x04] = (none, some .bitAboveFormat) := by decide
theorem test_debounce_bit_six : gives (.debounce .start) [0x40] = (none, some .bitAboveFormat) := by decide

/-! ### Decoding: words written out from R81 to R83 and section 2.6 -/

/-- WM = rst ctrl phase style stop_fire start_fire frz sv tick expire. -/
theorem test_decode_main : decode (.main 0b1001000001) = .reset ∧ decode (.main 0b0001011111) = .selStart ∧
    decode (.main 0b0001000100) = .selSample ∧ decode (.main 0b0001001101) = .selDrop ∧
    decode (.main 0b0001001011) = .selIdle ∧ decode (.main 0b0000000011) = .selIdle ∧
    decode (.main 0b0111100010) = .runAbort ∧ decode (.main 0b0101000011) = .runFirstStep ∧
    decode (.main 0b0100000000) = .runFirstRound ∧ decode (.main 0b0110000011) = .runExpire ∧
    decode (.main 0b0111000010) = .runTickStep ∧ decode (.main 0b0110000010) = .runTickRound ∧
    decode (.main 0b0110000001) = .runWait := by decide

/-- WD = rst en st btn tick last. -/
theorem test_decode_debounce : decode (.debounce .start 0b101110) = .dbReset .start ∧
    decode (.debounce .stop 0b001110) = .dbDisabled .stop ∧ decode (.debounce .start 0b010011) = .dbIdle .start ∧
    decode (.debounce .stop 0b010101) = .dbArm .stop ∧ decode (.debounce .start 0b011001) = .dbHold .start ∧
    decode (.debounce .stop 0b011110) = .dbCount .stop ∧ decode (.debounce .start 0b011011) = .dbFire .start ∧
    decode (.debounce .stop 0b011111) = .dbReject .stop := by decide

theorem test_decode_quantizer : decode (.quantizer 0b10000000) = .qTier7 ∧ decode (.quantizer 0b01000010) = .qTier6 ∧
    decode (.quantizer 0b00111111) = .qTier5 ∧ decode (.quantizer 0b00010001) = .qTier4 ∧
    decode (.quantizer 0b00001111) = .qTier3 ∧ decode (.quantizer 0b00000111) = .qTier2 ∧
    decode (.quantizer 0b00000011) = .qTier1 ∧ decode (.quantizer 0b00000001) = .qTier0 := by decide

/-- The low byte comes first (log 7). -/
theorem test_decode_bytes : gives .main [0xC3, 0x01] = (some .runExpire, none) ∧
    gives (.debounce .stop) [0x1B] = (some (.dbFire .stop), none) ∧ gives .quantizer [0x42] = (some .qTier6, none) := by
  decide

theorem test_decodeTableWord : decodeTableWord 16 0x183 = some .runExpire ∧ decodeTableWord 10 0x1C2 = some .runTickStep ∧
    decodeTableWord 8 0x1B = some (.dbFire .start) ∧ decodeTableWord 8 0x80 = some .qTier7 ∧
    decodeTableWord 16 0x400 = none ∧ decodeTableWord 6 0x40 = none ∧ decodeTableWord 17 0x000 = none := by decide

/-- From reset, the state that stands for a fetch performs the word's operation in the very next step. -/
theorem test_withFetchWord : (State.reset.withFetchWord 16 0x120).performs = .runAbort ∧
    (State.reset.withFetchWord 16 0x010).performs = .selStart ∧
    (State.reset.withFetchWord 16 0x183).performs = .runExpire ∧
    (State.reset.withFetchWord 8 0x1F).debounceOp .start = .dbReject .start ∧
    (State.reset.withFetchWord 8 0x40).quantizerOp = .qTier6 := by decide

/-! ### Family Q and the selection operations -/

/-- Section 2.1: class boundaries. -/
theorem test_comparators : comparators 0x000 = 0b00000000 ∧ comparators 0x07F = 0b00000001 ∧
    comparators 0x080 = 0b00000011 ∧ comparators 0x200 = 0b00011111 ∧ comparators 0x37F = 0b01111111 ∧
    comparators 0x380 = 0b11111111 ∧ comparators 0x3FF = 0b11111111 := by decide

theorem test_quantizer_lines :
    linesOf (exec .qTier3 (at_ Regs.reset [])) = some (⟨3, 100, 0x10⟩, false, false) ∧
      linesOf (exec .qTier0 (at_ Regs.reset [])) = some (⟨0, 0, 0x80⟩, false, false) := by decide

/-- V-SEL-1. -/
theorem test_sel_1 : after Regs.reset 0x0580 = some (sel 3 true 0x10 true idle) := by decide
/-- V-SEL-3. -/
theorem test_sel_3 : after (sel 3 true 0x10 true idle) 0x0000 = some (sel 3 true 0x10 false idle) := by decide
/-- V-SEL-4. -/
theorem test_sel_4 : after (sel 2 true 0x20 true (settle 50)) 0x2622 = some (sel 2 true 0x20 false (settle 50)) := by decide
/-- V-SEL-5: the sample of the arming step is accepted. -/
theorem test_sel_5 : after (sel 5 true 0x04 false idle) 0x2511 = some (sel 2 true 0x20 true (settle 50)) := by decide
/-- V-SEL-7: Start is dead before the first sample. -/
theorem test_sel_7 : after Regs.reset 0x2000 = some Regs.reset := by decide

/-! ### Family RUN -/

/-- R141 and R142 at the points of section 2.3. -/
theorem test_tables : initialTime .proportional 7 = 1260 ∧ initialTime .fixedTable 7 = 1575 ∧
    threshold Config.ftThr .proportional 1 7 = 367 ∧ threshold Config.ftThr .proportional 3 1 = 87 ∧
    threshold Config.ftThr .fixedTable 0 7 = 0 := by decide

/-- V-RUN-2: the tick of the first step is ignored. -/
theorem test_run_2 : after (run .first .proportional 4 840 7 0x08 idle) 0x0800
    = some (run .run .proportional 4 840 6 0x48 idle) := by decide
/-- V-RUN-3: bit 6 is written 0, bit 7 is not touched. -/
theorem test_run_3 : after (run .first .proportional 0 0 7 0x80 idle) 0x0800
    = some (run .run .proportional 0 0 6 0x80 idle) := by decide
/-- V-RUN-5: `chk_k` wraps 1 to 7. -/
theorem test_run_5 : after (run .run .proportional 1 415 1 0x7E idle) 0x0800
    = some (run .run .proportional 1 414 7 0x7F idle) := by decide
/-- V-RUN-7: equality clears. -/
theorem test_run_7 : after (run .run .proportional 2 491 7 0x7F idle) 0x0800
    = some (run .run .proportional 2 490 6 0x3F idle) := by decide
/-- V-RUN-12: `run(0)` ends at its first counted tick with -1. -/
theorem test_run_12 : after (run .run .proportional 0 0 6 0x80 idle) 0x0800
    = some { run .run .proportional 0 0xFFFF 6 0x80 idle with
      valve := false, ctrl := .selecting, phase := .first, selValid := false, ledStb := false } := by decide
/-- V-RUN-14. -/
theorem test_run_14 : after (run .run .proportional 1 200 4 0x0F idle) 0x07FF
    = some { run .run .proportional 1 200 4 0x0F idle with ledStb := false } := by decide
/-- V-RUN-18: row 0 is zeros, bit 7 kept. -/
theorem test_run_18 : after (run .first .fixedTable 0 0 7 0x80 idle) 0x0800
    = some (run .run .fixedTable 0 0 7 0x80 idle) := by decide
/-- V-RUN-16 and V-RUN-20, over the vectors' own tables. -/
theorem test_run_16_20 :
    ((at_ (run .run .fixedTable 1 56 7 0x7F idle) []).checkRound (ftTableOf ftEx) 55).led = 0x3F ∧
    ((at_ (run .run .fixedTable 3 31 7 0x55 idle) []).checkRound
      (ftTableOf [[], [], [], [50, 10, 50, 10, 50, 10, 50]]) 30).led = 0x2A := by decide
/-- V-RUN-19. -/
theorem test_run_19 :
    styleOf .fixedTable 7 = true ∧
      ((at_ (run .first .fixedTable 7 1575 7 0x01 idle) []).checkStep (ftTableOf ftEx) 1575).led = 0x41 := by decide
/-- V-RUN-21: `chk_k` = 0 writes no bit and goes to 7. -/
theorem test_run_21 : after (run .run .proportional 1 300 0 0x1F idle) 0x0800
    = some (run .run .proportional 1 299 7 0x1F idle) := by decide

/-! ### Family DB: the start unit, enabled, in a selection state -/

/-- V-DB-2: disabled (no sample classified). -/
theorem test_db_2 : after (sel 0 false 0x00 false (settle 19)) 0x2800 = some (sel 0 false 0x00 false idle) := by decide
/-- V-DB-5: the tick of the arming step is not counted. -/
theorem test_db_5 : after (sel 4 true 0x08 false idle) 0x2800 = some (sel 4 true 0x08 false (settle 50)) := by decide
/-- V-DB-6. -/
theorem test_db_6 : after (sel 4 true 0x08 false (settle 50)) 0x2800 = some (sel 4 true 0x08 false (settle 49)) := by decide
/-- V-DB-10. -/
theorem test_db_10 : after (sel 4 true 0x08 false (settle 1)) 0x2800 = some (sel 4 true 0x08 false idle) := by decide
/-- V-DB-11. -/
theorem test_db_11 : after (sel 4 true 0x08 false (settle 1)) 0x0000 = some (sel 4 true 0x08 false (settle 1)) := by decide
/-- V-DB-9 and V-DB-3: the fire signal. -/
theorem test_db_9_3 :
    (linesOf (step (at_ (sel 4 true 0x08 false (settle 1)) [0x0800]))).map (·.2) = some (true, false) ∧
      (linesOf (step (at_ (sel 4 true 0x08 false idle) [0x0800]))).map (·.2) = some (false, false) := by decide

/-! ### Family CTL -/

/-- V-CTL-2: `mode` latched, the sample not classified. -/
theorem test_ctl_2 : after (sel 4 true 0x08 false (settle 1)) 0x4C33
    = some { run .first .fixedTable 4 120 7 0x08 idle with ledStb := false } := by decide
/-- V-CTL-4: abort wins over expiry. -/
theorem test_ctl_4 : after (run .run .proportional 1 1 7 0x00 (settle 1)) 0x0800
    = some { run .run .proportional 1 1 7 0x00 idle with
      valve := false, ctrl := .selecting, phase := .first, selValid := false, ledStb := false } := by decide
/-- V-CTL-5: every other input ignored. -/
theorem test_ctl_5 : after (run .run .proportional 4 838 4 0x78 idle) 0xAFFF = some Regs.reset := by decide
/-- V-CTL-6: the run ends, the stop unit counts in the same step. -/
theorem test_ctl_6 : after (run .run .fixedTable 1 1 7 0x00 (settle 20)) 0x5800
    = some { run .run .fixedTable 1 0 7 0x00 (settle 19) with
      valve := false, ctrl := .selecting, phase := .first, selValid := false, ledStb := false } := by decide
/-- V-CTL-7: both buttons. -/
theorem test_ctl_7 : after (sel 4 true 0x08 false idle) 0x3000 = some (sel 4 true 0x08 false (settle 50)) := by decide

/-! ### Format I and the script -/

/-- P1: the encoding of the script, and the `OUT` word after V-SEL-1. -/
theorem test_script_p1 :
    (stimulusOf [.reset, .sample 0x050, .idle 1, .sample 0x180, .sample 0x3FF, .sample 0x000]).map encodeInput
      = [0x8000, 0x0450, 0x0000, 0x0580, 0x07FF, 0x0400] ∧
    (at_ (sel 3 true 0x10 true idle) []).outWord = 0x110 := by decide

/-- P2, P4: a click. -/
theorem test_script_click :
    (stimulusOf [.click .start]).map encodeInput = 0x2000 :: List.replicate 49 0x2800 ++ [0x0800] := by decide

/-! ### Witnesses: for each statement with hypotheses, states and operands that meet them -/

theorem witness_BytesDecodeToTheMatchingRow : Instr.selDrop.wellFormed = true ∧ (Instr.dbFire .stop).wellFormed = true := by
  decide

/-- The largest and the smallest sample that R93 allows. -/
theorem witness_ScriptLinesGiveInputs : (Line.cyc true true (some 1023)).wellFormed = true ∧
    (Line.cyc false false (some 0)).wellFormed = true ∧ (Line.cyc false true none).wellFormed = true := by decide

theorem witness_SelSampleClassifies : (3 : Tier) < 4 ∧ (at_ Regs.reset [0x0580]).input.sample = 0x180 := by decide

/-- The least value that the decrement's clause admits, and the least count. -/
theorem witness_exact_decrements : -32768 < (0x8001 : Ticks).toInt ∧ 0 < (1 : SettleCount).toNat := by decide

theorem witness_StepConsumesOneInput : (∃ t, step (at_ Regs.reset [0x0580]) = .next t) ∧
    (at_ Regs.reset [0x0580]).stimulus = decodeInput 0x0580 :: [] ∧
    (∃ t, step (at_ Regs.reset []) = .next t) ∧ (at_ Regs.reset []).stimulus = [] := by
  obtain ⟨_, -, h⟩ := step_next (at_ Regs.reset [0x0580])
  obtain ⟨_, -, h'⟩ := step_next (at_ Regs.reset [])
  exact ⟨⟨_, h⟩, rfl, ⟨_, h'⟩, rfl⟩

/-- A reset inside a run, with every other input at 1. -/
theorem witness_ResetStepLeavesTheResetState :
    (at_ (run .run .proportional 4 838 4 0x78 (settle 7)) [0xFFFF]).input.rst = true := by decide

/-- A state for each clause of `TransitionTable`: its main operation, with both invariants. -/
def tableStates : List (State × Instr) :=
  [(at_ (run .run .proportional 4 838 4 0x78 (settle 7)) [0x8000], .reset),
   (at_ (sel 4 true 0x08 false (settle 1)) [0x0800], .selStart),
   (at_ (sel 4 true 0x08 false idle) [0x0400], .selSample),
   (at_ (sel 4 true 0x08 false (settle 50)) [0x0400], .selDrop),
   (at_ (sel 4 true 0x08 false (settle 1)) [0x2800], .selIdle),
   (at_ (run .first .proportional 4 840 7 0x08 idle) [0x0800], .runFirstStep),
   (at_ (run .first .fixedTable 4 120 7 0x08 idle) [0x0000], .runFirstRound),
   (at_ (run .run .proportional 1 1 7 0x00 (settle 1)) [0x0800], .runAbort),
   (at_ (run .run .proportional 1 1 7 0x00 idle) [0x0800], .runExpire),
   (at_ (run .run .proportional 1 2 7 0x00 idle) [0x0800], .runTickStep),
   (at_ (run .run .fixedTable 1 2 7 0x00 idle) [0x0800], .runTickRound),
   (at_ (run .run .fixedTable 1 1 7 0x00 (settle 1)) [0x0000], .runWait)]

theorem witness_TransitionTable : tableStates.all (fun p =>
    decide (SelectingIsFirst p.1) && decide (StopQuietInFirst p.1) && p.1.performs == p.2) = true := by decide

/-- The stop event and the expiry of the table's clauses, at the boundary `time_left` = 1 and 2. -/
theorem witness_TransitionTable_conditions :
    (at_ (run .run .proportional 1 1 7 0x00 (settle 1)) [0x0800]).debounceOp .stop = .dbFire .stop ∧
    (at_ (run .run .proportional 1 1 7 0x00 idle) [0x0800]).debounceOp .stop ≠ .dbFire .stop ∧
    expireOf 1 = true ∧ expireOf 2 = false ∧
    (at_ (sel 4 true 0x08 false (settle 1)) [0x0800]).debounceOp .start = .dbFire .start ∧
    (at_ (sel 4 true 0x08 false (settle 1)) [0x2800]).debounceOp .start ≠ .dbFire .start := by decide

/-- Abort, expiry and reset, from RUNNING. -/
theorem witness_ExitsFromRunning :
    [(run .run .proportional 1 1 7 0x00 (settle 1), (0x0800 : InWord), Instr.runAbort),
      (run .run .proportional 1 1 7 0x00 idle, 0x0800, .runExpire),
      (run .run .proportional 1 2 7 0x00 idle, 0x8800, .reset)].all (fun p =>
        (at_ p.1 [p.2.1]).ctrl == .running && (at_ p.1 [p.2.1]).performs == p.2.2
          && (after p.1 p.2.1).any (·.ctrl == .selecting)) = true := by decide

/-- One step that writes `led` and one that does not. -/
theorem witness_StrobeMarksLedWrites : (after Regs.reset 0x0580).map (·.ledStb) = some true ∧
    (after Regs.reset 0x0000).map (·.ledStb) = some false ∧ (at_ Regs.reset [0x0000]).performs ≠ .reset := by decide

/-- A waiting step is none of any register's writers. -/
theorem witness_RegistersHaveTheirWriters :
    (at_ (run .run .proportional 1 200 4 0x0F idle) [0x0000]).performs = .runWait ∧
    (after (run .run .proportional 1 200 4 0x0F idle) 0x0000).isSome = true := by decide

theorem witness_SelValidGuardsTheStart : (at_ Regs.reset [0x0580]).performs = .selSample ∧
    (at_ (run .run .proportional 1 1 7 0x00 idle) [0x0800]).performs = .runExpire ∧
    (at_ Regs.reset [0x2000]).ctrl = .selecting ∧ (at_ Regs.reset [0x2000]).selValid = false := by decide

/-- A start step and another one, each with a vector at the ports. -/
theorem witness_ModeReadOnlyAtStart : (at_ (sel 4 true 0x08 false (settle 1)) [0x0800]).performs = .selStart ∧
    (at_ Regs.reset [0x0580]).performs = .selSample ∧
    (at_ Regs.reset [0x0580]).stimulus = decodeInput 0x0580 :: [] := by decide

theorem witness_SamplesIgnoredInRunning :
    (at_ (run .run .proportional 1 200 4 0x0F idle) [0x0C01]).stimulus = decodeInput 0x0C01 :: [] ∧
    (at_ (run .run .proportional 1 200 4 0x0F idle) [0x0C01]).ctrl = .running ∧ (decodeInput 0x0C01).rst = false := by
  decide

theorem witness_InvalidSampleIgnored : (at_ Regs.reset [0x03FF]).stimulus = decodeInput 0x03FF :: [] ∧
    (decodeInput 0x03FF).sampleValid = false := by decide

/-- A step that stays in SELECTING and one that starts the run. -/
theorem witness_SettleFreezesTheSelection :
    [((0x0400 : InWord), Ctrl.selecting), (0x0C00, .running)].all (fun p =>
      let s := at_ (sel 4 true 0x08 false (settle 1)) [p.1]
      s.ctrl == .selecting && s.dbs.state == .settle && s.input.rst == false
        && (after (sel 4 true 0x08 false (settle 1)) p.1).any (·.ctrl == p.2)) = true := by decide

/-- A start whose next step is a first check, and one whose next step is a reset. -/
theorem witness_ValveOpensBeforeFirstLedWrite :
    (∃ t, (at_ (sel 4 true 0x08 false (settle 1)) [0x0800, 0x0000]).performs = .selStart ∧
      step (at_ (sel 4 true 0x08 false (settle 1)) [0x0800, 0x0000]) = .next t ∧ t.input.rst = false) ∧
    ∃ t, (at_ (sel 4 true 0x08 false (settle 1)) [0x0800, 0x8000]).performs = .selStart ∧
      step (at_ (sel 4 true 0x08 false (settle 1)) [0x0800, 0x8000]) = .next t ∧ t.input.rst = true :=
  ⟨⟨_, by decide, rfl, rfl⟩, _, by decide, rfl, rfl⟩

/-- A run in progress (P4 step 56), and SELECTING with `time_left` = -1 after a `run(0)` (P2 step 55): the two ends of the
range that items 5 and 6 allow. -/
theorem witness_InvariantKeptByEveryStep : BlockInv (at_ (run .run .proportional 4 838 4 0x78 idle) [0x0800]) ∧
    BlockInv (at_ { sel 0 false 0x80 false idle with timeLeft := 0xFFFF, chkK := 6 } [0x0600]) ∧
    (∃ t, step (at_ (run .run .proportional 4 838 4 0x78 idle) [0x0800]) = .next t) := by
  obtain ⟨_, -, h⟩ := step_next (at_ (run .run .proportional 4 838 4 0x78 idle) [0x0800])
  exact ⟨by decide, by decide, _, h⟩

/-- From a content that no run reaches, a reset and two more steps. -/
theorem witness_InvariantAfterFirstReset :
    (at_ { run .first .proportional 0 0x8000 0 0xFF (settle 63) with valve := false } [0x8000, 0x0580, 0x0000]).input.rst = true ∧
    ∃ t, runSteps 3 (at_ { run .first .proportional 0 0x8000 0 0xFF (settle 63) with valve := false }
      [0x8000, 0x0580, 0x0000]) = .next t ∧ t.ctrl = .selecting :=
  ⟨by decide, _, rfl, rfl⟩

/-- A step into the FIRST phase of a run, where the statement's conclusion is not empty. -/
theorem witness_StopQuietInFirstKept : ∃ t, step (at_ (sel 4 true 0x08 false (settle 1)) [0x0800]) = .next t ∧
    t.ctrl = .running ∧ t.phase = .first := ⟨_, rfl, rfl, rfl⟩

/-- The start step's clause, and no steps and one step of the other. -/
theorem witness_NoAbortInFirstFiftySteps :
    (at_ (sel 4 true 0x08 false (settle 1)) [0x0800]).performs = .selStart ∧
    (at_ (run .first .proportional 4 840 7 0x08 idle) [0x1000]).dbp.state = .idle ∧
    (∃ t, runSteps 0 (at_ (run .first .proportional 4 840 7 0x08 idle) [0x1000]) = .next t) ∧
    ∃ t, runSteps 1 (at_ (run .first .proportional 4 840 7 0x08 idle) [0x1000]) = .next t ∧ t.dbp = settle 50 :=
  ⟨by decide, by decide, ⟨_, rfl⟩, _, rfl, rfl⟩

/-- A per-round run of tier 1 at 30, whose bar is the comparisons, whatever the open table holds; and its next step. -/
theorem witness_BarShowsTimeKept :
    BarShowsTime (at_ (run .run .fixedTable 1 30 7 (writeBar 0 (bar Config.ftThr .fixedTable 1 30)) idle) [0x0800]) ∧
    styleOf .fixedTable 1 = false ∧
    ∃ t, step (at_ (run .run .fixedTable 1 30 7 (writeBar 0 (bar Config.ftThr .fixedTable 1 30)) idle) [0x0800]) =
      .next t := by
  refine ⟨fun _ j => (writeBar_getLsbD _ _ j).trans (bar_getLsbD _ _ _ _ j), rfl, ?_⟩
  obtain ⟨_, -, h⟩ := step_next
    (at_ (run .run .fixedTable 1 30 7 (writeBar 0 (bar Config.ftThr .fixedTable 1 30)) idle) [0x0800])
  exact ⟨_, h⟩

/-- Both clauses: before the first check, and after one counted tick of 420 (P3 step 55). -/
theorem witness_CheckFollowsTimeKept :
    CheckFollowsTime (at_ (run .first .proportional 1 420 7 0x40 idle) [0x0800]) ∧
    CheckFollowsTime (at_ (run .run .proportional 1 419 5 0x60 idle) [0x0800]) ∧
    (∃ t, step (at_ (run .run .proportional 1 419 5 0x60 idle) [0x0800]) = .next t) := by
  obtain ⟨_, -, h⟩ := step_next (at_ (run .run .proportional 1 419 5 0x60 idle) [0x0800])
  exact ⟨by decide, by decide, _, h⟩

/-- A click, 49 ticks with the button down, then the tick that decides: button up, and button still down. -/
theorem witness_StartEventAtFiftiethTick :
    [(0x0800 : InWord), 0x2800].all (fun z =>
      let ws := List.replicate 49 (decodeInput 0x2800)
      let s := at_ (sel 4 true 0x08 false idle) (0x2000 :: (List.replicate 49 0x2800 ++ [z]))
      s.ctrl == .selecting && s.selValid && s.dbs.state == .idle
        && decide (s.stimulus = decodeInput 0x2000 :: (ws ++ decodeInput z :: []))
        && !(decodeInput 0x2000).rst && (decodeInput 0x2000).btnStart && ws.all (fun w => !w.rst) && ticksIn ws == 49
        && !(decodeInput z).rst && (decodeInput z).tick) = true := by decide

/-- A state of program P3's run of 60 in proportional mode, with a tick at the ports. -/
abbrev p3 (phase : Phase) (time : Ticks) (k : CheckNo) (led : LedPattern) : State :=
  at_ (run phase .proportional 1 time k led idle) [0x0800]

/-- The invariants on the way of the per-step bar: before the first check (P3 step 53), and at n = 1 (P3 step 55), where checks 7
and 6 have been made and the five others are still to come. -/
theorem witness_StepBarKept :
    (BlockInv (p3 .first 420 7 0x40) ∧ CheckFollowsTime (p3 .first 420 7 0x40) ∧
      StepBarShowsLastChecks (p3 .first 420 7 0x40)) ∧
    BlockInv (p3 .run 419 5 0x60) ∧ CheckFollowsTime (p3 .run 419 5 0x60) ∧ StepBarShowsLastChecks (p3 .run 419 5 0x60) ∧
    (p3 .run 419 5 0x60).lag 6 = 0 ∧ (p3 .run 419 5 0x60).lag 7 = 1 ∧ (p3 .run 419 5 0x60).lag 5 = 6 :=
  ⟨⟨by decide, by decide, by decide⟩, by decide, by decide, by decide, by decide⟩

/-- P3 step 109: the bar is full and check 7 is due; its last check was 6 counted ticks ago. -/
theorem witness_StepBarKept_lag :
    BlockInv (p3 .run 365 7 0x7F) ∧ CheckFollowsTime (p3 .run 365 7 0x7F) ∧ StepBarShowsLastChecks (p3 .run 365 7 0x7F) ∧
    (p3 .run 365 7 0x7F).lag 7 = 6 :=
  ⟨by decide, by decide, by decide, by decide⟩

/-- The end of a proportional run (P3 step 473). -/
theorem witness_LedsLeftAtExpiry :
    BlockInv (p3 .run 1 7 0x00) ∧ CheckFollowsTime (p3 .run 1 7 0x00) ∧ BarShowsTime (p3 .run 1 7 0x00) ∧
    StepBarShowsLastChecks (p3 .run 1 7 0x00) ∧ (p3 .run 1 7 0x00).performs = .runExpire :=
  ⟨by decide, by decide, by decide, by decide, by decide⟩

/-- The end of a per-round run of tier 1 over the open table. -/
theorem witness_LedsLeftAtExpiry_round :
    let s := at_ (run .run .fixedTable 1 1 7 (writeBar 0 (bar Config.ftThr .fixedTable 1 1)) idle) [0x0800]
    BlockInv s ∧ CheckFollowsTime s ∧ BarShowsTime s ∧ StepBarShowsLastChecks s ∧ s.performs = .runExpire ∧
      styleOf s.runMode s.runTier = false ∧ 0 < (initialTime s.runMode s.runTier).toInt := by
  have htop : ∀ b : BitVec 7, (writeBar 0 b).getLsbD 7 = false := fun b => by rw [writeBar_top]; rfl
  refine ⟨⟨by decide, by decide, by decide, ?_, by decide, by decide, by decide, by decide, ?_⟩, by decide,
    fun _ j => (writeBar_getLsbD _ _ j).trans (bar_getLsbD _ _ _ _ j), ⟨?_, ?_, ?_⟩, by decide, by decide, by decide⟩
  · exact fun h => absurd h.1 (by decide)
  · exact fun h => absurd ((htop _).symm.trans h) (by decide)
  · exact fun h => absurd h.2 (by decide)
  · exact fun _ => htop _
  · exact fun h => absurd h.2.2 (by decide)

/-- The hypotheses of `StopEventAtFiftiethTick` for the inputs `ws` between the press and the deciding vector `z`. -/
def stopDecides (r : Regs) (a : InWord) (ws : List InWord) (z : InWord) : Bool :=
  let is := ws.map decodeInput
  let s := at_ r (a :: (ws ++ [z]))
  s.ctrl == .running && s.dbp.state == .idle && decide (s.stimulus = decodeInput a :: (is ++ decodeInput z :: []))
    && (decodeInput a).btnStop && ticksIn is == 49
    && (operationsOf (is.length + 1) s).all (fun op => op != .reset && op != .runExpire)
    && !(decodeInput z).rst && (decodeInput z).tick

/-- A click of Stop (P4), and Stop held in the deciding step (P7a); in a run of 60 from its first check on, and at the boundary
where the deciding tick is the run's last. -/
theorem witness_StopEventAtFiftiethTick :
    stopDecides (run .first .fixedTable 1 60 7 0x40 idle) 0x1000 (List.replicate 49 0x1800) 0x0800 = true ∧
    stopDecides (run .run .fixedTable 1 60 7 0x40 idle) 0x1000 (0x1000 :: List.replicate 49 0x0800) 0x1800 = true ∧
    stopDecides (run .run .fixedTable 1 50 7 0x40 idle) 0x1000 (List.replicate 49 0x1800) 0x1800 = true ∧
    stopDecides (run .run .fixedTable 1 49 7 0x40 idle) 0x1000 (List.replicate 49 0x1800) 0x1800 = false := by decide

/-- The hypotheses of `RunCountsItsTicks` for a run of tier `i` in the mode, with the vectors `g`, `ws` and `z`. -/
def runCounts (m : Mode) (i : Tier) (g : InWord) (ws : List InWord) (z : InWord) : Bool :=
  let is := ws.map decodeInput
  let s := at_ (run .first m i (initialTime m i) 7 0x08 idle) (g :: (ws ++ [z]))
  s.ctrl == .running && s.phase == .first && s.timeLeft == initialTime s.runMode s.runTier
    && decide (s.stimulus = decodeInput g :: (is ++ decodeInput z :: [])) && (decodeInput z).tick
    && (operationsOf (is.length + 2) s).all (fun op => op != .runAbort && op != .reset)
    && decide ((ticksIn is : Int) + 1 ≤ max (initialTime m i).toInt 1)

/-- Without a Stop press: the last tick of a run of 60, a tick before it, and the only tick of a `run(0)`. -/
theorem witness_RunCountsItsTicks : runCounts .fixedTable 1 0x0000 (List.replicate 59 0x0800) 0x0800 = true ∧
    runCounts .fixedTable 1 0x0000 (List.replicate 58 0x0800) 0x0800 = true ∧
    runCounts .proportional 0 0x0000 [] 0x0800 = true ∧
    runCounts .fixedTable 1 0x0000 (List.replicate 60 0x0800) 0x0800 = false := by decide

/-- Stop held past the 50th tick and then rejected (as in P7a), Stop still settling at the end (as in P7b), and a click of Stop,
which aborts the run and so does not meet the hypotheses. -/
theorem witness_RunCountsItsTicks_stop :
    runCounts .fixedTable 1 0x1000 (List.replicate 59 0x1800) 0x0800 = true ∧
    runCounts .fixedTable 1 0x0000 (List.replicate 29 0x0800 ++ 0x1000 :: List.replicate 30 0x1800) 0x1800 = true ∧
    runCounts .fixedTable 1 0x1000 (List.replicate 59 0x0800) 0x0800 = false := by decide

/-- The first clause with Stop pressed throughout, and with exactly the ticks it asks for. -/
theorem witness_EveryRunEnds_inside :
    (run .run .proportional 1 3 7 0x00 idle).ctrl = .running ∧ (run .run .proportional 1 3 7 0x00 idle).phase = .run ∧
    max (3 : Ticks).toInt 1 ≤ ticksIn (at_ (run .run .proportional 1 3 7 0x00 idle) [0x1800, 0x1000, 0x1800, 0x1800]).stimulus :=
  by decide

/-- The hypotheses of the second clause, for a start step with the vector `a` of a tier's run. -/
def startHolds (tier : Tier) (a g : InWord) (ws : List InWord) : Bool :=
  let is := ws.map decodeInput
  let s := at_ (sel tier true 0x00 false (settle 1)) (a :: g :: ws)
  s.performs == .selStart && decide (s.stimulus = decodeInput a :: decodeInput g :: (is ++ []))
    && decide (max (initialTime (Mode.ofBit (decodeInput a).mode) s.selTier).toInt 1 ≤ ticksIn is)

/-- A `run(0)`, and a run of 60 in fixed-table mode with Stop pressed throughout; one tick less is not enough. -/
theorem witness_EveryRunEnds_start : startHolds 0 0x0800 0x0000 [0x0800] = true ∧
    startHolds 1 0x4800 0x1000 (List.replicate 60 0x1800) = true ∧
    startHolds 1 0x4800 0x1000 (List.replicate 59 0x1800) = false := by decide

end Sys2Proof.Tests
end

section
/-! PROOF. The scope of a step (spec/00_scope.md): which operations it runs, and what it does with the input vectors. -/

namespace Sys2Proof.Machine

/-! ### The input fields in a step -/

/-- With no vector listed, the input is the free vector that `drawn` names. -/
theorem State.input_nil (s : State) (h : s.stimulus = []) : s.input = Config.envInput s.drawn := by
  simp [State.input, h]

/-- A free vector is counted exactly when no vector was listed. -/
@[simp] theorem State.advance_drawn (s : State) :
    s.advance.drawn = if s.stimulus = [] then s.drawn + 1 else s.drawn := by
  unfold State.advance
  split <;> simp_all

theorem StepCase.drawn_eq {s u : State} {op : Instr} (h : StepCase s op u) : u.drawn = s.drawn := by
  cases h <;> rfl

theorem step_stimulus {s t : State} (h : step s = .next t) : t.stimulus = s.stimulus.tail := by
  obtain ⟨_, u, -, hcase, rfl⟩ := step_case h
  rw [State.advance_stimulus, hcase.stimulus_eq]

theorem step_drawn {s t : State} (h : step s = .next t) :
    t.drawn = if s.stimulus = [] then s.drawn + 1 else s.drawn := by
  obtain ⟨_, u, -, hcase, rfl⟩ := step_case h
  rw [State.advance_drawn, hcase.stimulus_eq, hcase.drawn_eq]

end Sys2Proof.Machine

namespace Sys2Proof.Proofs

open Sys2Proof.Machine

/-- Settles O26: the start unit's registers are written first, which leaves the stop unit's alone, and both debouncers and the
class row together leave the settled state, on which the main unit's operation runs. -/
theorem stepRunsDecodedOperations : Obligations.StepRunsDecodedOperations := by
  intro s
  obtain ⟨u, -, hmain⟩ := stepCase_exists s
  have hstart := exec_debounceOp s s .start rfl
  have hstop := exec_debounceOp s (s.writeDb .start (s.dbNext .start) (s.fires .start)) .stop rfl
  have hperforms : exec s.performs s.settled = .next u := by rw [State.performs_eq, hmain]
  exact ⟨_, _, s.settled, u, hstart, hstop, exec_decodeQuantizer _ _, hperforms, step_of_exec s u hmain⟩

/-- Settles O28: by cases on the list of input vectors, from what a step leaves in its two fields. -/
theorem stepConsumesOneInput : Obligations.StepConsumesOneInput := by
  intro s t h
  have hstimulus := step_stimulus h
  have hdrawn := step_drawn h
  constructor
  · intro i rest hs
    exact ⟨s.input_cons i rest hs, by simpa [hs] using hstimulus, by simpa [hs] using hdrawn⟩
  · intro hs
    exact ⟨s.input_nil hs, by simpa [hs] using hstimulus, by simpa [hs] using hdrawn⟩

end Sys2Proof.Proofs
end

section
/-! PROOF. The invariants of a good state (spec/10_state.md R34): they hold at reset, and every case of a step keeps each
item; `led_stb` (R31) and `sel_valid` (R28) case by case. -/

namespace Sys2Proof.Machine

/-! ### A debouncer's next registers and its fire signal -/

theorem State.fires_eq_true (s : State) (u : DbUnit) :
    s.fires u = true ↔ s.input.rst = false ∧ s.enable u = true ∧ (s.db u).state = .settle ∧ s.input.tick = true ∧
      lastOf (s.db u).cnt = true ∧ buttonOf s.input u = false := by
  simp [State.fires, and_assoc]

theorem State.fires_of_disabled {s : State} {u : DbUnit} (h : s.enable u = false) : s.fires u = false := by
  simp [State.fires, h]

theorem State.dbNext_of_disabled {s : State} {u : DbUnit} (h : s.enable u = false) :
    s.dbNext u = Debouncer.cleared := by
  simp [State.dbNext, h]

theorem State.dbNext_of_rst {s : State} (u : DbUnit) (h : s.input.rst = true) : s.dbNext u = Debouncer.cleared := by
  simp [State.dbNext, h]

theorem State.dbNext_of_fires {s : State} {u : DbUnit} (h : s.fires u = true) : s.dbNext u = Debouncer.cleared := by
  obtain ⟨hrst, hen, hst, htick, hlast, -⟩ := (s.fires_eq_true u).mp h
  simp [State.dbNext, hrst, hen, hst, htick, hlast]

theorem State.enable_start_of_running {s : State} (h : s.ctrl = .running) : s.enable .start = false := by
  simp [State.enable, h]

theorem State.enable_start_of_unclassified {s : State} (h : s.selValid = false) : s.enable .start = false := by
  simp [State.enable, h]

theorem State.enable_stop_of_selecting {s : State} (h : s.ctrl = .selecting) : s.enable .stop = false := by
  simp [State.enable, h]

theorem Debouncer.cleared_ok : Debouncer.cleared.Ok := by decide

/-- R34 item 7 for one unit: the count is decremented only while it is above 1. -/
theorem State.dbNext_ok {s : State} {u : DbUnit} (h : (s.db u).Ok) : (s.dbNext u).Ok := by
  unfold State.dbNext
  split_ifs with hen hst htick hlast hbtn
  · exact Debouncer.cleared_ok
  · obtain ⟨-, hrange⟩ := h
    obtain ⟨-, hmax⟩ := hrange hst
    rw [lastOf_eq, decide_eq_true_eq, Nat.not_le] at hlast
    refine ⟨fun hidle => (nomatch hst.symm.trans hidle), fun _ => ?_⟩
    have hdec : ((s.db u).cnt - 1).toNat = (s.db u).cnt.toNat - 1 := by bv_omega
    constructor <;> simp only [hdec] <;> omega
  · exact h
  · exact ⟨nofun, fun _ => by decide⟩
  · exact h
  · exact Debouncer.cleared_ok

/-! ### The items of R34, one by one, in every case of a step -/

/-- Bit 7 is in the pattern of tier 0 only. -/
theorem patterns_top : ∀ i : Tier, Config.patterns[i].getLsbD 7 = true → i = 0 := by decide

theorem StepCase.valveMatchesCtrl {s u : State} {op : Instr} (hu : StepCase s op u) (h : ValveMatchesCtrl s) :
    ValveMatchesCtrl u := by
  cases hu with
  | reset | selStart | runAbort | runExpire => rfl
  | _ => exact h

theorem StepCase.selectingIsFirst {s u : State} {op : Instr} (hu : StepCase s op u) (h : SelectingIsFirst s) :
    SelectingIsFirst u := by
  cases hu with
  | reset | selStart | runAbort | runExpire => exact fun _ => rfl
  | runFirstStep _ hc | runFirstRound _ hc =>
    exact fun hsel => nomatch hc.symm.trans hsel
  | _ => exact h

theorem StepCase.checkInRange {s u : State} {op : Instr} (hu : StepCase s op u) (h : CheckInRange s) :
    CheckInRange u := by
  cases hu with
  | reset => exact (by decide : CheckInRange State.reset)
  | selStart => exact ⟨Nat.le_of_ble_eq_true rfl, le_rfl⟩
  | runFirstStep | runTickStep => exact prevCheck_range s.chkK
  | _ => exact h

theorem StepCase.selectionShown {s u : State} {op : Instr} (hu : StepCase s op u) (h : SelectionShown s) :
    SelectionShown u := by
  cases hu with
  | reset | runAbort | runExpire => exact fun hsel => nomatch hsel.2
  | selStart => exact fun hsel => nomatch hsel.1
  | selSample => exact fun _ => rfl
  | selDrop | selIdle => exact h
  | runFirstStep _ hc | runFirstRound _ hc | runTickStep _ hc | runTickRound _ hc | runWait _ hc =>
    exact fun hsel => nomatch hc.symm.trans hsel.1

/-- A tick that does not end the run leaves `time_left` within its bounds, above 0. -/
theorem TimeWithinRun.nextTime {s : State} (h : TimeWithinRun s) (hc : s.ctrl = .running) (he : 1 < s.timeLeft.toInt) :
    0 < s.nextTime.toInt ∧ s.nextTime.toInt ≤ (initialTime s.runMode s.runTier).toInt := by
  obtain ⟨-, hmax, -⟩ := h.1 hc
  rw [s.nextTime_toInt (by omega)]
  omega

theorem StepCase.timeWithinRun {s u : State} {op : Instr} (hu : StepCase s op u) (h : TimeWithinRun s) :
    TimeWithinRun u := by
  have hcounted (hc : s.ctrl = .running) (he : 1 < s.timeLeft.toInt) : TimeWithinRun { s with timeLeft := s.nextTime } := by
    obtain ⟨hpos, hmax⟩ := h.nextTime hc he
    exact ⟨fun _ => ⟨hpos.le, hmax, fun h0 => absurd h0 hpos.ne'⟩, fun hneg => by simp only at hneg; omega⟩
  cases hu with
  | reset => exact (by decide : TimeWithinRun State.reset)
  | selStart =>
    have hnonneg := initialTime_nonneg (Mode.ofBit s.input.mode) s.selTier
    refine ⟨fun _ => ⟨hnonneg, le_rfl, fun h0 => BitVec.eq_of_toInt_eq h0⟩, fun hneg => ?_⟩
    simp only at hneg
    omega
  | runAbort _ hc =>
    obtain ⟨hnonneg, -, -⟩ := h.1 hc
    refine ⟨nofun, fun hneg => ?_⟩
    simp only [State.closeRun_timeLeft, State.settled_toRegs] at hneg
    omega
  | runExpire _ hc =>
    -- only a counter of 0 reaches -1, and in a run 0 is seen only when the run started there
    obtain ⟨hnonneg, -, hzero⟩ := h.1 hc
    refine ⟨nofun, fun hneg => ⟨rfl, hzero ?_⟩⟩
    have hdec := s.nextTime_toInt (by omega)
    simp only at hneg
    omega
  | runTickStep _ hc _ _ _ he | runTickRound _ hc _ _ _ he => exact hcounted hc he
  | runFirstStep | runFirstRound | runWait | selSample | selDrop | selIdle => exact h

theorem StepCase.timeInRange {s u : State} {op : Instr} (hu : StepCase s op u) (hrun : TimeWithinRun s)
    (h : TimeInRange s) : TimeInRange u := by
  have hcounted (hc : s.ctrl = .running) : TimeInRange { s with timeLeft := s.nextTime } := by
    obtain ⟨hnonneg, -, -⟩ := hrun.1 hc
    have hdec := s.nextTime_toInt (by omega)
    constructor <;> simp only [hdec] <;> omega
  cases hu with
  | reset => exact (by decide : TimeInRange State.reset)
  | selStart =>
    have hnonneg := initialTime_nonneg (Mode.ofBit s.input.mode) s.selTier
    have hlt := (initialTime (Mode.ofBit s.input.mode) s.selTier).toInt_lt
    constructor <;> simp only <;> omega
  | runExpire _ hc | runTickStep _ hc | runTickRound _ hc => exact hcounted hc
  | _ => exact h

theorem StepCase.debouncersOk {s u : State} {op : Instr} (hu : StepCase s op u) (h : s.dbs.Ok ∧ s.dbp.Ok) :
    u.dbs.Ok ∧ u.dbp.Ok := by
  obtain ⟨hdbs, hdbp, -, -⟩ := hu.debouncers_eq
  rw [hdbs, hdbp]
  exact ⟨State.dbNext_ok (u := .start) h.1, State.dbNext_ok (u := .stop) h.2⟩

/-- R34 item 8: where the start debouncer must be IDLE, the step itself has cleared it; no invariant of the state before is
needed. -/
theorem StepCase.startQuiet {s u : State} {op : Instr} (hu : StepCase s op u) : StartQuiet u := by
  have hcleared (h : s.dbNext .start = Debouncer.cleared) : u.dbs.state = .idle := by
    rw [hu.debouncers_eq.1, h]; rfl
  have hrunning (hc : s.ctrl = .running) : u.dbs.state = .idle :=
    hcleared (State.dbNext_of_disabled (State.enable_start_of_running hc))
  cases hu with
  | reset hr => exact ⟨fun _ => hcleared (State.dbNext_of_rst _ hr), fun _ => hcleared (State.dbNext_of_rst _ hr)⟩
  | selStart _ _ hf => exact ⟨fun _ => hcleared (State.dbNext_of_fires hf), fun hsel => (nomatch hsel.1)⟩
  | selSample _ hc => exact ⟨fun hrun => (nomatch hc.symm.trans hrun), fun hsel => (nomatch hsel.2)⟩
  | selDrop _ hc | selIdle _ hc =>
    exact ⟨fun hrun => (nomatch hc.symm.trans hrun),
      fun hsel => hcleared (State.dbNext_of_disabled (State.enable_start_of_unclassified hsel.2))⟩
  | runAbort _ hc | runExpire _ hc | runFirstStep _ hc | runFirstRound _ hc | runTickStep _ hc | runTickRound _ hc
  | runWait _ hc => exact ⟨fun _ => hrunning hc, fun _ => hrunning hc⟩

theorem StepCase.topLedMeansTierZero {s u : State} {op : Instr} (hu : StepCase s op u) (h : TopLedMeansTierZero s) :
    TopLedMeansTierZero u := by
  cases hu with
  | reset => exact (by decide : TopLedMeansTierZero State.reset)
  | selSample => exact patterns_top _
  | runFirstStep | runTickStep => exact fun htop => h ((writeLedBit_top _ _ _).symm.trans htop)
  | runFirstRound | runTickRound => exact fun htop => h ((writeBar_top _ _).symm.trans htop)
  | selStart | selDrop | selIdle | runAbort | runExpire | runWait => exact h

/-! ### The nine items together -/

/-- The nine items speak of the registers only. -/
theorem BlockInv.of_toRegs_eq {s t : State} (h : BlockInv s) (he : t.toRegs = s.toRegs) : BlockInv t := by
  simpa only [BlockInv, ValveMatchesCtrl, SelectingIsFirst, CheckInRange, SelectionShown, TimeWithinRun, TimeInRange,
    StartQuiet, TopLedMeansTierZero, he] using h

theorem blockInv_reset : BlockInv State.reset := by decide

theorem StepCase.blockInv {s u : State} {op : Instr} (hu : StepCase s op u) (h : BlockInv s) : BlockInv u := by
  obtain ⟨hvalve, hfirst, hcheck, hshown, hrun, htime, hdb, -, htop⟩ := h
  exact ⟨hu.valveMatchesCtrl hvalve, hu.selectingIsFirst hfirst, hu.checkInRange hcheck, hu.selectionShown hshown,
    hu.timeWithinRun hrun, hu.timeInRange hrun htime, hu.debouncersOk hdb, hu.startQuiet, hu.topLedMeansTierZero htop⟩

theorem step_blockInv {s t : State} (h : BlockInv s) (hst : step s = .next t) : BlockInv t := by
  obtain ⟨_, u, -, hu, rfl⟩ := step_case hst
  exact (hu.blockInv h).of_toRegs_eq u.advance_toRegs

/-- R261: a reset step leaves every register at its reset value, whatever it held. -/
theorem step_toRegs_of_rst {s t : State} (hr : s.input.rst = true) (hst : step s = .next t) :
    t.toRegs = Regs.reset := by
  obtain ⟨_, u, -, hu, rfl⟩ := step_case hst
  rw [State.advance_toRegs]
  cases hu with
  | reset => simp [State.dbNext_of_rst _ hr, Regs.reset]
  | _ hr' => exact nomatch hr.symm.trans hr'

/-- After a reset step the nine items hold for ever. -/
theorem runSteps_blockInv_of_rst {s t : State} {n : Nat} (hr : s.input.rst = true)
    (h : runSteps (n + 1) s = .next t) : BlockInv t := by
  induction n generalizing t with
  | zero =>
    obtain ⟨m, hm, hst⟩ := runSteps_last h
    obtain rfl : s = m := by injection hm
    exact blockInv_reset.of_toRegs_eq (step_toRegs_of_rst hr hst)
  | succ n ih =>
    obtain ⟨m, hm, hst⟩ := runSteps_last h
    exact step_blockInv (ih hm) hst

/-- While selecting the stop debouncer is disabled: the step clears it and there is no stop event. -/
theorem step_stop_cleared_of_selecting {s : State} (hc : s.ctrl = .selecting) :
    ∃ t, step s = .next t ∧ t.dbp = ⟨.idle, 0⟩ ∧ t.stopFire = false := by
  obtain ⟨u, hu, hst⟩ := step_next s
  obtain ⟨-, hdbp, -, hfire⟩ := hu.debouncers_eq
  have hoff := State.enable_stop_of_selecting hc
  refine ⟨_, hst, ?_, ?_⟩
  · rw [State.advance_toRegs, hdbp, State.dbNext_of_disabled hoff]; rfl
  · rw [State.advance_stopFire, hfire, State.fires_of_disabled hoff]

/-! ### The strobe and the valid flag, in every case of a step -/

/-- R31: the operations that write `led`, `RESET` apart. -/
theorem StepCase.ledStb_iff {s u : State} {op : Instr} (hu : StepCase s op u) :
    u.ledStb = true ↔ op ∈ [Instr.selSample, .runFirstStep, .runFirstRound, .runTickStep, .runTickRound] := by
  cases hu with
  | selSample | runFirstStep | runFirstRound | runTickStep | runTickRound => exact iff_of_true rfl (by decide)
  | _ => exact iff_of_false (by simp [Regs.reset]) (by decide)

theorem StepCase.led_eq {s u : State} {op : Instr} (hu : StepCase s op u) (hstb : u.ledStb = false)
    (hop : op ≠ .reset) : u.led = s.led := by
  cases hu with
  | reset => exact absurd rfl hop
  | selSample | runFirstStep | runFirstRound | runTickStep | runTickRound => cases hstb
  | _ => rfl

/-- R28: the ends of a run. -/
theorem StepCase.selValid_of_runEnd {s u : State} {op : Instr} (hu : StepCase s op u)
    (hop : op ∈ [Instr.reset, .runAbort, .runExpire]) : u.selValid = false := by
  cases hu with
  | reset | runAbort | runExpire => rfl
  | _ => exact absurd hop (by decide)

/-- While no sample is classified the start debouncer is disabled, so it cannot fire and no run starts. -/
theorem StepCase.selecting_of_unclassified {s u : State} {op : Instr} (hu : StepCase s op u)
    (hc : s.ctrl = .selecting) (hv : s.selValid = false) : u.ctrl = .selecting := by
  cases hu with
  | reset | runAbort | runExpire => rfl
  | selStart _ _ hf =>
    have hquiet := State.fires_of_disabled (State.enable_start_of_unclassified hv)
    exact nomatch hf.symm.trans hquiet
  | _ => exact hc

end Sys2Proof.Machine

namespace Sys2Proof.Proofs

open Sys2Proof.Machine

/-- Settles O43: the nine items by evaluation; the other invariants speak of RUNNING, and at reset the block is selecting. -/
theorem invariantsHoldAtReset : Obligations.InvariantsHoldAtReset := by
  have hsel : State.reset.ctrl ≠ .running := by decide
  exact ⟨blockInv_reset, fun h => absurd h.1 hsel, fun h => absurd h.1 hsel,
    ⟨fun h => absurd h.1 hsel, fun h => absurd h.1 hsel⟩,
    fun h => absurd h.1 hsel, fun h => absurd h.1 hsel, fun h => absurd h.1 hsel⟩

/-- Settles O44: each of the nine items is kept by every case of a step. -/
theorem invariantKeptByEveryStep : Obligations.InvariantKeptByEveryStep :=
  fun _ _ => step_blockInv

/-- Settles O45: by induction on the steps after the reset step, which leaves the reset registers. -/
theorem invariantAfterFirstReset : Obligations.InvariantAfterFirstReset :=
  fun _ _ _ hr h => ⟨runSteps_blockInv_of_rst hr h, step_stop_cleared_of_selecting⟩

/-- Settles O33, by the cases of a step. -/
theorem strobeMarksLedWrites : Obligations.StrobeMarksLedWrites := by
  intro s t h
  obtain ⟨_, u, rfl, hu, rfl⟩ := step_case h
  rw [State.advance_toRegs]
  exact ⟨hu.ledStb_iff, hu.led_eq⟩

/-- Settles O35, by the cases of a step. -/
theorem selValidGuardsTheStart : Obligations.SelValidGuardsTheStart := by
  intro s t h
  obtain ⟨_, u, hop, hu, rfl⟩ := step_case h
  rw [State.advance_toRegs, hop]
  refine ⟨?_, hu.selValid_of_runEnd, hu.selecting_of_unclassified⟩
  rintro rfl
  cases hu
  rfl

end Sys2Proof.Proofs
end

section
/-! PROOF. Which inputs a step reads (spec/20_memory.md): two states with the same registers, whose inputs agree on what an
operation reads, are taken to the same registers; `mode` is read in `SEL_START` only (R72). -/

namespace Sys2Proof.Machine

/-! ### What a debouncer reads: the registers, `rst`, `tick` and its own button -/

theorem State.enable_congr {s s' : State} (u : DbUnit) (hregs : s'.toRegs = s.toRegs) : s'.enable u = s.enable u := by
  cases u <;> simp [State.enable, hregs]

theorem State.db_congr {s s' : State} (u : DbUnit) (hregs : s'.toRegs = s.toRegs) : s'.db u = s.db u := by
  cases u <;> simp [State.db, hregs]

theorem State.fires_congr {s s' : State} (u : DbUnit) (hregs : s'.toRegs = s.toRegs)
    (hrst : s'.input.rst = s.input.rst) (htick : s'.input.tick = s.input.tick)
    (hbtn : buttonOf s'.input u = buttonOf s.input u) : s'.fires u = s.fires u := by
  simp only [State.fires, State.enable_congr u hregs, State.db_congr u hregs, hrst, htick, hbtn]

theorem State.dbNext_congr {s s' : State} (u : DbUnit) (hregs : s'.toRegs = s.toRegs)
    (hrst : s'.input.rst = s.input.rst) (htick : s'.input.tick = s.input.tick)
    (hbtn : buttonOf s'.input u = buttonOf s.input u) : s'.dbNext u = s.dbNext u := by
  simp only [State.dbNext, State.enable_congr u hregs, State.db_congr u hregs, hrst, htick, hbtn]

/-! ### The input `mode` -/

@[simp] theorem buttonOf_mode (i : Input) (m : Bool) (u : DbUnit) : buttonOf { i with mode := m } u = buttonOf i u := by
  cases u <;> rfl

section SameButMode

variable {s s' : State} {i : Input} {m : Bool} (hi : s.input = i) (hi' : s'.input = { i with mode := m })
  (hregs : s'.toRegs = s.toRegs)
include hi hi' hregs

theorem State.fires_of_mode (u : DbUnit) : s'.fires u = s.fires u :=
  State.fires_congr u hregs (by rw [hi, hi']) (by rw [hi, hi']) (by rw [hi, hi', buttonOf_mode])

theorem State.dbNext_of_mode (u : DbUnit) : s'.dbNext u = s.dbNext u :=
  State.dbNext_congr u hregs (by rw [hi, hi']) (by rw [hi, hi']) (by rw [hi, hi', buttonOf_mode])

/-- No bit of a selector word is `mode`. -/
theorem State.performs_of_mode : s'.performs = s.performs := by
  simp only [State.performs_eq, State.stepOp, State.fires_of_mode hi hi' hregs, State.mainOp_eq, hregs, hi, hi']

theorem State.settled_toRegs_of_mode : s'.settled.toRegs = s.settled.toRegs := by
  simp only [State.settled_toRegs, State.dbNext_of_mode hi hi' hregs, hregs]

/-- R72: every operation but `SEL_START` leaves the same registers whatever `mode` is. -/
theorem StepCase.toRegs_of_mode {u u' : State} {op : Instr} (hu : StepCase s op u) (hu' : StepCase s' op u')
    (hop : op ≠ .selStart) : u'.toRegs = u.toRegs := by
  have hsettled := State.settled_toRegs_of_mode hi hi' hregs
  have hnext : s'.nextTime = s.nextTime := by simp only [State.nextTime, hregs]
  cases hu with
  | selStart => exact absurd rfl hop
  | reset | selDrop | selIdle | runWait =>
    cases hu'
    simp only [hsettled]
  | selSample =>
    cases hu'
    simp only [hsettled, hi, hi']
  | runAbort | runExpire =>
    cases hu'
    simp only [State.closeRun, hsettled, hnext]
  | runFirstStep | runTickStep =>
    cases hu'
    simp only [State.checkStep, hsettled, hregs, hnext]
  | runFirstRound | runTickRound =>
    cases hu'
    simp only [State.checkRound, hsettled, hregs, hnext]

end SameButMode

/-- R72, R203: `SEL_START` copies `mode` to `run_mode`. -/
theorem StepCase.runMode_of_selStart {s u : State} (hu : StepCase s .selStart u) :
    u.runMode = Mode.ofBit s.input.mode := by
  cases hu
  rfl

end Sys2Proof.Machine

namespace Sys2Proof.Proofs

open Sys2Proof.Machine

/-- Settles O36: with another `mode` at the ports the same operation is performed, and the registers it leaves are compared
case by case. -/
theorem modeReadOnlyAtStart : Obligations.ModeReadOnlyAtStart := by
  intro s i rest m hs
  have hi := s.input_cons i rest hs
  have hi' : State.input { s with stimulus := { i with mode := m } :: rest } = { i with mode := m } := rfl
  obtain ⟨u, hu, hst⟩ := step_next s
  obtain ⟨u', hu', hst'⟩ := step_next { s with stimulus := { i with mode := m } :: rest }
  rw [State.performs_of_mode hi hi' rfl] at hu'
  refine ⟨_, _, hst, hst', fun hop => ?_, fun hop => ?_⟩
  · rw [State.advance_toRegs, State.advance_toRegs, hu.toRegs_of_mode hi hi' rfl hu' hop]
  · rw [hop] at hu
    rw [State.advance_toRegs, hu.runMode_of_selStart, hi, Mode.ofBit]

end Sys2Proof.Proofs
end

section
/-! PROOF. The selector maps (spec/30_encoding.md R86 to R90): each decoder answers an operation exactly for the words that
match its row, on words and on their bytes. -/

namespace Sys2Proof

/-! ### A mask and a match, bit by bit -/

theorem eq_and_iff_getLsbD {n : Nat} (value w mask : BitVec n) :
    value = w &&& mask ↔ ∀ k : Fin n, value.getLsbD k = (w.getLsbD k && mask.getLsbD k) := by
  rw [BitVec.eq_of_getLsbD_eq_iff]
  simp only [Fin.forall_iff, BitVec.getLsbD_and]

theorem rowMatches_main {i : Instr} {w : MainWord} :
    rowMatches i (.main w) = true ↔ encode i = .main (w &&& BitVec.ofNat 10 (rowMask i)) := by
  unfold rowMatches
  cases encode i <;> simp [eq_comm (a := w &&& _)]

theorem rowMatches_debounce {i : Instr} {u : DbUnit} {w : DebounceWord} :
    rowMatches i (.debounce u w) = true ↔ encode i = .debounce u (w &&& BitVec.ofNat 6 (rowMask i)) := by
  unfold rowMatches
  cases encode i <;> simp [eq_comm (a := w &&& _), eq_comm (b := u)]

theorem rowMatches_quantizer {i : Instr} {c : CompareWord} :
    rowMatches i (.quantizer c) = true ↔ encode i = .quantizer (c &&& BitVec.ofNat 8 (rowMask i)) := by
  unfold rowMatches
  cases encode i <;> simp [eq_comm (a := c &&& _)]

/-! ### Every word matches the row of the operation it decodes to -/

/-- Along the decoder's branches: the bits tested on the way to an operation are those in its row's mask. -/
theorem rowMatches_decodeMain (w : MainWord) : rowMatches (decodeMain w) (.main w) = true := by
  rw [rowMatches_main]
  unfold decodeMain
  split_ifs <;>
    simp_all [encode, rowMask, eq_and_iff_getLsbD, Fin.forall_fin_succ]

theorem rowMatches_decodeDebounce (u : DbUnit) (w : DebounceWord) :
    rowMatches (decodeDebounce u w) (.debounce u w) = true := by
  rw [rowMatches_debounce]
  unfold decodeDebounce
  split_ifs <;>
    simp_all [encode, rowMask, eq_and_iff_getLsbD, Fin.forall_fin_succ]

theorem rowMatches_decodeQuantizer (c : CompareWord) : rowMatches (decodeQuantizer c) (.quantizer c) = true := by
  rw [rowMatches_quantizer]
  unfold decodeQuantizer
  split_ifs <;>
    simp_all [encode, rowMask, eq_and_iff_getLsbD, Fin.forall_fin_succ]

/-! ### A word that matches a row decodes to that row's operation -/

/-- Row by row: the mask and match fix the bits that lead the decoder to the row's operation. -/
theorem decodeMain_of_rowMatches {i : Instr} {w : MainWord} (h : rowMatches i (.main w) = true) : decodeMain w = i := by
  rw [rowMatches_main] at h
  cases i <;> simp [encode, rowMask, eq_and_iff_getLsbD, Fin.forall_fin_succ] at h <;> simp [decodeMain, h]

theorem decodeDebounce_of_rowMatches {i : Instr} {u : DbUnit} {w : DebounceWord}
    (h : rowMatches i (.debounce u w) = true) : decodeDebounce u w = i := by
  rw [rowMatches_debounce] at h
  cases i <;> simp [encode, rowMask, eq_and_iff_getLsbD, Fin.forall_fin_succ] at h <;> simp [decodeDebounce, h]

theorem decodeQuantizer_of_rowMatches {i : Instr} {c : CompareWord} (h : rowMatches i (.quantizer c) = true) :
    decodeQuantizer c = i := by
  rw [rowMatches_quantizer] at h
  cases i <;> simp [encode, rowMask, eq_and_iff_getLsbD, Fin.forall_fin_succ] at h <;> simp [decodeQuantizer, h]

/-- R86 to R88, R90: the rows of a format are disjoint and cover every word, and the decoder answers the matching one. -/
theorem decode_eq_iff_rowMatches (i : Instr) (x : Selector) : decode x = i ↔ rowMatches i x = true := by
  cases x with
  | main w => exact ⟨fun h => h ▸ rowMatches_decodeMain w, decodeMain_of_rowMatches⟩
  | debounce u w => exact ⟨fun h => h ▸ rowMatches_decodeDebounce u w, decodeDebounce_of_rowMatches⟩
  | quantizer c => exact ⟨fun h => h ▸ rowMatches_decodeQuantizer c, decodeQuantizer_of_rowMatches⟩

/-- A row's `match` value has no bit outside the row's `mask`. -/
theorem rowMatches_encode (i : Instr) : rowMatches i (encode i) = true := by
  cases i <;> simp [rowMatches, encode, rowMask]

theorem decode_encode (i : Instr) : decode (encode i) = i :=
  (decode_eq_iff_rowMatches i _).mpr (rowMatches_encode i)

/-! ### The bytes of a selector word (log 7) -/

theorem main_highByte_toNat (w : MainWord) : ((w >>> 8).setWidth 8).toNat = w.toNat / 256 := by
  have := w.isLt
  simp [Nat.shiftRight_eq_div_pow]
  omega

/-- The two bytes of a word of format M, put together again. -/
theorem main_bytes_append (w : MainWord) : ((w >>> 8).setWidth 8).setWidth 2 ++ w.setWidth 8 = w := by
  apply BitVec.eq_of_toNat_eq
  rw [BitVec.toNat_append, BitVec.toNat_setWidth, main_highByte_toNat, BitVec.toNat_setWidth]
  rw [← Nat.shiftLeft_add_eq_or_of_lt (by omega)]
  have := w.isLt
  omega

theorem selectorOfBytes_bytesOfSelector (x : Selector) : selectorOfBytes x.kind (bytesOfSelector x) = .ok x := by
  cases x with
  | main w =>
    have hhigh : ((w >>> 8).setWidth 8).toNat < 4 := by
      have := w.isLt
      rw [main_highByte_toNat]
      omega
    simp only [Selector.kind, bytesOfSelector, selectorOfBytes, if_pos hhigh]
    rw [main_bytes_append]
  | debounce u w =>
    have hbyte : (w.setWidth 8).toNat < 64 := by
      rw [BitVec.toNat_setWidth_of_le (by decide)]
      exact w.isLt
    simp only [Selector.kind, bytesOfSelector, selectorOfBytes, if_pos hbyte]
    rw [BitVec.setWidth_setWidth_of_le w (by decide), BitVec.setWidth_eq]
  | quantizer c => rfl

theorem decodeBytes_bytesOfSelector (x : Selector) : decodeBytes x.kind (bytesOfSelector x) = .ok (decode x) := by
  rw [decodeBytes, selectorOfBytes_bytesOfSelector]

/-! ### Each row's condition, as the tables print it -/

theorem decode_main_eq_iff {i : Instr} {m : MainWord} (hi : encode i = .main m) (w : MainWord) :
    decode (.main w) = i ↔ w &&& BitVec.ofNat 10 (rowMask i) = m := by
  rw [decode_eq_iff_rowMatches, rowMatches_main, hi, Selector.main.injEq, eq_comm]

theorem decode_debounce_eq_iff {i : Instr} {u : DbUnit} {m : DebounceWord} (hi : encode i = .debounce u m)
    (w : DebounceWord) : decode (.debounce u w) = i ↔ w &&& BitVec.ofNat 6 (rowMask i) = m := by
  rw [decode_eq_iff_rowMatches, rowMatches_debounce, hi, Selector.debounce.injEq, and_iff_right rfl, eq_comm]

theorem decode_quantizer_eq_iff {i : Instr} {m : CompareWord} (hi : encode i = .quantizer m) (c : CompareWord) :
    decode (.quantizer c) = i ↔ c &&& BitVec.ofNat 8 (rowMask i) = m := by
  rw [decode_eq_iff_rowMatches, rowMatches_quantizer, hi, Selector.quantizer.injEq, eq_comm]

end Sys2Proof

namespace Sys2Proof.Proofs

open Sys2Proof.Machine

/-- Settles O4: the bytes of a word give back the word, and a word decodes to the operation whose row it matches. -/
theorem bytesDecodeToTheMatchingRow : Obligations.BytesDecodeToTheMatchingRow := by
  intro i _
  refine ⟨rowMatches_encode i, ?_, fun x => ?_⟩
  · rw [encodeBytes, decodeBytes_bytesOfSelector, decode_encode]
  · rw [decodeBytes_bytesOfSelector, Except.ok.injEq, decode_eq_iff_rowMatches]

/-- Settles O1: each row's condition is that of its mask and match; that there is no other operation follows the
decoder's branches. -/
theorem mainSelectorRows : Obligations.MainSelectorRows := by
  intro w
  have row {i : Instr} {m : MainWord} (hi : encode i = .main m) := decode_main_eq_iff hi w
  refine ⟨row rfl, row rfl, row rfl, row rfl, row rfl, row rfl, row rfl, row rfl, row rfl, row rfl, row rfl, row rfl, ?_⟩
  rw [decode, decodeMain]
  split_ifs <;> decide

/-- Settles O2, as O1. -/
theorem debounceSelectorRows : Obligations.DebounceSelectorRows := by
  intro u w
  have row {i : Instr} {m : DebounceWord} (hi : encode i = .debounce u m) := decode_debounce_eq_iff hi w
  refine ⟨row rfl, row rfl, row rfl, row rfl, row rfl, row rfl, row rfl, row rfl, ?_⟩
  rw [decode, decodeDebounce]
  split_ifs <;> simp

/-- Settles O3: the rows as O1; performing a row drives its class's outputs. -/
theorem quantizerRows : Obligations.QuantizerRows := by
  refine ⟨fun c => ?_, fun s => ⟨rfl, rfl, rfl, rfl, rfl, rfl, rfl, rfl⟩⟩
  have row {i : Instr} {m : CompareWord} (hi : encode i = .quantizer m) := decode_quantizer_eq_iff hi c
  refine ⟨row rfl, row rfl, row rfl, row rfl, row rfl, row rfl, row rfl, row rfl, ?_⟩
  rw [decode, decodeQuantizer]
  split_ifs <;> decide

/-- Settles O5: each word matches its operation's row. -/
theorem selectorVectorsDecode : Obligations.SelectorVectorsDecode := by
  have row {i : Instr} {x : Selector} (h : rowMatches i x = true) : decode x = i := (decode_eq_iff_rowMatches i x).mpr h
  exact ⟨row rfl, row rfl, row rfl, row rfl, row rfl, row rfl, row rfl, row rfl, row rfl, row rfl, row rfl, row rfl,
    row rfl, row rfl, row rfl, row rfl⟩

end Sys2Proof.Proofs
end

section
/-! PROOF. The state arranged for a selector word (spec/30_encoding.md R80 to R83; log 5) presents that word, or one with the
same bits where the operation looks. -/

namespace Sys2Proof.Machine

theorem State.fires_of_idle {s : State} {u : DbUnit} (h : (s.db u).state = .idle) : s.fires u = false :=
  Bool.eq_false_iff.mpr fun hf => by
    obtain ⟨-, -, hst, -⟩ := (s.fires_eq_true u).mp hf
    exact nomatch h.symm.trans hst

theorem State.fires_of_not_last {s : State} {u : DbUnit} (h : lastOf (s.db u).cnt = false) : s.fires u = false :=
  Bool.eq_false_iff.mpr fun hf => by
    obtain ⟨-, -, -, -, hlast, -⟩ := (s.fires_eq_true u).mp hf
    exact nomatch h.symm.trans hlast

/-! ### Format M -/

section ArrangeMain

variable (s : State) (w : MainWord)

theorem State.arrangeMain_input : (s.arrangeMain w).input =
    { rst := w.getLsbD 9, mode := false, btnStart := false, btnStop := false
      tick := w.getLsbD 1 || (!w.getLsbD 8 && w.getLsbD 4) || (w.getLsbD 8 && w.getLsbD 5)
      sampleValid := w.getLsbD 2, sample := 0 } := rfl

theorem State.arrangeMain_ctrl : (s.arrangeMain w).ctrl = if w.getLsbD 8 then .running else .selecting := rfl

theorem State.arrangeMain_phase : (s.arrangeMain w).phase = if w.getLsbD 7 then .run else .first := rfl

theorem State.arrangeMain_selValid :
    (s.arrangeMain w).selValid = ((!w.getLsbD 8 && w.getLsbD 4) || s.selValid) := rfl

theorem State.arrangeMain_timeLeft : (s.arrangeMain w).timeLeft = if w.getLsbD 0 then 1 else 2 := rfl

theorem State.arrangeMain_dbs : (s.arrangeMain w).dbs =
    if !w.getLsbD 8 && w.getLsbD 4 then ⟨.settle, 1⟩
    else if w.getLsbD 3 then ⟨.settle, Config.settle⟩ else Debouncer.cleared := rfl

theorem State.arrangeMain_dbp : (s.arrangeMain w).dbp =
    if w.getLsbD 8 && w.getLsbD 5 then ⟨.settle, 1⟩ else Debouncer.cleared := rfl

theorem State.arrangeMain_style :
    styleOf (s.arrangeMain w).runMode (s.arrangeMain w).runTier = w.getLsbD 6 := by
  unfold State.arrangeMain
  cases w.getLsbD 6
  · rw [styleOf_eq_false]
    by_cases h7 : s.runTier = 7 <;> simp [h7]
  · rw [styleOf_eq_true]
    exact .inl rfl

theorem State.arrangeMain_expire : expireOf (s.arrangeMain w).timeLeft = w.getLsbD 0 := by
  rw [State.arrangeMain_timeLeft]
  cases w.getLsbD 0 <;> decide

/-- The start unit is at its last tick, with its button released, exactly for a selecting word whose `start_fire` is 1. -/
theorem State.arrangeMain_fires_start (hrst : w.getLsbD 9 = false) (hsel : w.getLsbD 8 = false) :
    (s.arrangeMain w).fires .start = w.getLsbD 4 := by
  have hdbs := s.arrangeMain_dbs w
  cases hstart : w.getLsbD 4
  · rw [hsel, hstart] at hdbs
    cases hfrz : w.getLsbD 3 <;> rw [hfrz] at hdbs
    · exact State.fires_of_idle (congrArg Debouncer.state hdbs)
    · exact State.fires_of_not_last (congrArg (lastOf ·.cnt) hdbs)
  · rw [hsel, hstart] at hdbs
    have henable : (s.arrangeMain w).enable .start = true := by
      rw [State.enable, State.arrangeMain_ctrl, State.arrangeMain_selValid, hsel, hstart]
      rfl
    have htick : (s.arrangeMain w).input.tick = true := by
      rw [State.arrangeMain_input, hsel, hstart]
      simp only [Bool.not_false, Bool.and_true, Bool.or_true, Bool.true_or]
    exact (State.fires_eq_true _ _).mpr
      ⟨hrst, henable, congrArg Debouncer.state hdbs, htick, congrArg (lastOf ·.cnt) hdbs, rfl⟩

/-- The stop unit is so exactly for a running word whose `stop_fire` is 1. -/
theorem State.arrangeMain_fires_stop (hrst : w.getLsbD 9 = false) (hrun : w.getLsbD 8 = true) :
    (s.arrangeMain w).fires .stop = w.getLsbD 5 := by
  have hdbp := s.arrangeMain_dbp w
  cases hstop : w.getLsbD 5
  · rw [hrun, hstop] at hdbp
    exact State.fires_of_idle (congrArg Debouncer.state hdbp)
  · rw [hrun, hstop] at hdbp
    have henable : (s.arrangeMain w).enable .stop = true := by
      rw [State.enable, State.arrangeMain_ctrl, hrun]
      rfl
    have htick : (s.arrangeMain w).input.tick = true := by
      rw [State.arrangeMain_input, hrun, hstop]
      simp only [Bool.and_true, Bool.or_true]
    exact (State.fires_eq_true _ _).mpr
      ⟨hrst, henable, congrArg Debouncer.state hdbp, htick, congrArg (lastOf ·.cnt) hdbp, rfl⟩

/-- The bits that the arranged state does not present as given lie outside the mask of the operation performed. -/
theorem State.arrangeMain_performs : (s.arrangeMain w).performs = decodeMain w := by
  rw [State.performs_eq, State.stepOp, State.mainOp_eq, State.arrangeMain_style, State.arrangeMain_expire,
    State.arrangeMain_input, State.arrangeMain_ctrl, State.arrangeMain_phase, State.arrangeMain_dbs, decodeMain]
  cases hrst : w.getLsbD 9
  · cases hrun : w.getLsbD 8
    · rw [State.arrangeMain_fires_start s w hrst hrun]
      cases hstart : w.getLsbD 4
      · cases hfrz : w.getLsbD 3 <;> simp [Debouncer.cleared]
      · simp
    · rw [State.arrangeMain_fires_stop s w hrst hrun]
      cases hstop : w.getLsbD 5
      · cases hphase : w.getLsbD 7 <;> simp
      · simp
  · simp

end ArrangeMain

/-! ### Format D -/

section ArrangeDebounce

variable (s : State) (u : DbUnit) (w : DebounceWord)

theorem State.arrangeDebounce_input : (s.arrangeDebounce u w).input =
    { rst := w.getLsbD 5, mode := false, btnStart := u == .start && w.getLsbD 2
      btnStop := u == .stop && w.getLsbD 2, tick := w.getLsbD 1, sampleValid := false, sample := 0 } := by
  cases u <;> rfl

theorem State.arrangeDebounce_button : buttonOf (s.arrangeDebounce u w).input u = w.getLsbD 2 := by
  rw [State.arrangeDebounce_input]
  cases u <;> rfl

theorem State.arrangeDebounce_enable : (s.arrangeDebounce u w).enable u = w.getLsbD 4 := by
  cases u with
  | start => rfl
  | stop =>
    change ((if w.getLsbD 4 then Ctrl.running else .selecting) == .running) = w.getLsbD 4
    cases w.getLsbD 4 <;> rfl

theorem State.arrangeDebounce_db : (s.arrangeDebounce u w).db u =
    if w.getLsbD 3 then ⟨.settle, if w.getLsbD 0 then 1 else 2⟩ else ⟨.idle, if w.getLsbD 0 then 0 else 2⟩ := by
  cases u <;> rfl

theorem State.arrangeDebounce_state : (((s.arrangeDebounce u w).db u).state == .settle) = w.getLsbD 3 := by
  rw [State.arrangeDebounce_db]
  cases w.getLsbD 3 <;> rfl

theorem State.arrangeDebounce_last : lastOf ((s.arrangeDebounce u w).db u).cnt = w.getLsbD 0 := by
  rw [State.arrangeDebounce_db]
  cases w.getLsbD 3 <;> cases w.getLsbD 0 <;> decide

/-- A word of format D is its six bits. -/
theorem debounceWord_eq_bits : ∀ w : DebounceWord,
    BitVec.ofBool (w.getLsbD 5) ++ BitVec.ofBool (w.getLsbD 4) ++ BitVec.ofBool (w.getLsbD 3)
      ++ BitVec.ofBool (w.getLsbD 2) ++ BitVec.ofBool (w.getLsbD 1) ++ BitVec.ofBool (w.getLsbD 0) = w := by
  decide

theorem State.arrangeDebounce_debounceWord : (s.arrangeDebounce u w).debounceWord u = w := by
  rw [State.debounceWord, State.arrangeDebounce_enable, State.arrangeDebounce_state, State.arrangeDebounce_button,
    State.arrangeDebounce_last, State.arrangeDebounce_input]
  exact debounceWord_eq_bits w

end ArrangeDebounce

/-! ### Format Q -/

/-- The class row of a tier (R88). -/
def classRow (i : Tier) : Instr :=
  [Instr.qTier0, .qTier1, .qTier2, .qTier3, .qTier4, .qTier5, .qTier6, .qTier7].getD i.val .qTier0

/-- The row of a vector depends on its highest set bit only (R112). -/
theorem decodeQuantizer_eq_classRow : ∀ c : CompareWord, decodeQuantizer c = classRow (tierOf c) := by decide

/-- A sample just above a threshold has that threshold's tier (R111, R112). -/
theorem tierOf_comparators_succ : ∀ i : Tier, tierOf (comparators (Config.thresholds[i] + 1)) = i := by decide

section ArrangeQuantizer

variable (s : State) (c : CompareWord)

theorem State.arrangeQuantizer_input : (s.arrangeQuantizer c).input =
    { rst := false, mode := false, btnStart := false, btnStop := false, tick := false, sampleValid := true
      sample := if tierOf c = 0 then (if c.getLsbD 0 then 1 else 0) else Config.thresholds[tierOf c] + 1 } := rfl

/-- The arranged sample is of the class that `c` selects, though its comparators need not give `c` itself. -/
theorem State.arrangeQuantizer_tierOf :
    tierOf (comparators (s.arrangeQuantizer c).input.sample) = tierOf c := by
  rw [State.arrangeQuantizer_input]
  split_ifs with h0 hbit
  · rw [h0]; decide
  · rw [h0]; decide
  · exact tierOf_comparators_succ _

theorem State.arrangeQuantizer_quantizerOp : (s.arrangeQuantizer c).quantizerOp = decodeQuantizer c := by
  rw [State.quantizerOp, decode, decodeQuantizer_eq_classRow, State.arrangeQuantizer_tierOf, decodeQuantizer_eq_classRow]

theorem State.arrangeQuantizer_performs : (s.arrangeQuantizer c).performs = .selSample := by
  have hquiet : (s.arrangeQuantizer c).fires .start = false := State.fires_of_idle rfl
  rw [State.performs_eq, State.stepOp, State.mainOp_eq, hquiet]
  rfl

end ArrangeQuantizer

end Sys2Proof.Machine

namespace Sys2Proof.Proofs

open Sys2Proof.Machine

/-- Settles O42, one part for each format. -/
theorem arrangedStatePerformsTheWord : Obligations.ArrangedStatePerformsTheWord :=
  fun s => ⟨s.arrangeMain_performs, s.arrangeDebounce_debounceWord,
    fun c => ⟨s.arrangeQuantizer_quantizerOp c, s.arrangeQuantizer_performs c⟩⟩

end Sys2Proof.Proofs
end

section
/-! PROOF. What each operation reads of the inputs (spec/30_encoding.md R84): `mode` in `SEL_START`, the sample in
`SEL_SAMPLE`, which needs `sample_valid`. -/

namespace Sys2Proof.Machine

section SameRegisters

variable {s s' : State} (hregs : s'.toRegs = s.toRegs) (hrst : s'.input.rst = s.input.rst)
  (htick : s'.input.tick = s.input.tick) (hbtn : ∀ u, buttonOf s'.input u = buttonOf s.input u)
include hregs hrst htick hbtn

/-- The operation depends on the registers, `rst`, `tick`, the buttons and, while selecting, on `sample_valid`. -/
theorem State.performs_congr (hvalid : s.ctrl = .selecting → s'.input.sampleValid = s.input.sampleValid) :
    s'.performs = s.performs := by
  have hfires (u : DbUnit) : s'.fires u = s.fires u := State.fires_congr u hregs hrst htick (hbtn u)
  simp only [State.performs_eq, State.stepOp, State.mainOp_eq, hfires, hregs, hrst, htick]
  cases hc : s.ctrl with
  | selecting => rw [hvalid hc]
  | running => simp

theorem State.settled_toRegs_congr : s'.settled.toRegs = s.settled.toRegs := by
  have hnext (u : DbUnit) : s'.dbNext u = s.dbNext u := State.dbNext_congr u hregs hrst htick (hbtn u)
  rw [State.settled_toRegs, State.settled_toRegs, hregs, hnext, hnext]

end SameRegisters

/-- The registers that an operation leaves depend on those it finds, on `mode` in `SEL_START` and on the sample in
`SEL_SAMPLE`. -/
theorem StepCase.toRegs_congr {s s' u u' : State} {op : Instr} (hu : StepCase s op u) (hu' : StepCase s' op u')
    (hregs : s'.toRegs = s.toRegs) (hsettled : s'.settled.toRegs = s.settled.toRegs)
    (hmode : op = .selStart → s'.input.mode = s.input.mode)
    (hsample : op = .selSample → s'.input.sample = s.input.sample) : u'.toRegs = u.toRegs := by
  have hnext : s'.nextTime = s.nextTime := by rw [State.nextTime, State.nextTime, hregs]
  cases hu with
  | reset | selDrop | selIdle | runWait =>
    cases hu'
    simp only [hsettled]
  | selStart =>
    cases hu'
    simp only [hsettled, hregs, hmode rfl]
  | selSample =>
    cases hu'
    simp only [hsettled, hsample rfl]
  | runAbort | runExpire =>
    cases hu'
    simp only [State.closeRun, hsettled, hnext]
  | runFirstStep | runTickStep =>
    cases hu'
    simp only [State.checkStep, hsettled, hregs, hnext]
  | runFirstRound | runTickRound =>
    cases hu'
    simp only [State.checkRound, hsettled, hregs, hnext]

theorem StepCase.sampleValid_of_selSample {s u : State} (hu : StepCase s .selSample u) : s.input.sampleValid = true := by
  cases hu with
  | selSample _ _ _ hv => exact hv

/-- With `sample_valid` 0 the operation performed is the same and is not `SEL_SAMPLE`, the only one that reads the sample. -/
theorem step_toRegs_of_invalid_sample {s s' : State} {x : Sample} (hregs : s'.toRegs = s.toRegs)
    (hi : s'.input = { s.input with sample := x }) (hvalid : s.input.sampleValid = false) :
    ∃ t t' : State, step s = .next t ∧ step s' = .next t' ∧ t'.toRegs = t.toRegs := by
  have hrst : s'.input.rst = s.input.rst := by rw [hi]
  have htick : s'.input.tick = s.input.tick := by rw [hi]
  have hbtn (u : DbUnit) : buttonOf s'.input u = buttonOf s.input u := by cases u <;> rw [hi] <;> rfl
  obtain ⟨u, hu, hst⟩ := step_next s
  obtain ⟨u', hu', hst'⟩ := step_next s'
  rw [State.performs_congr hregs hrst htick hbtn fun _ => by rw [hi]] at hu'
  refine ⟨_, _, hst, hst', ?_⟩
  rw [State.advance_toRegs, State.advance_toRegs]
  refine hu.toRegs_congr hu' hregs (State.settled_toRegs_congr hregs hrst htick hbtn) (fun _ => by rw [hi]) fun hop => ?_
  rw [hop] at hu
  exact nomatch hvalid.symm.trans hu.sampleValid_of_selSample

/-! ### The stimulus script -/

/-- A run of equal cycle lines is as many equal input vectors (R93). -/
theorem inputsOf_replicate_cyc (l : Levels) (rst tick : Bool) (sample : Option Nat) (n : Nat) (rest : List Line) :
    inputsOf l (List.replicate n (.cyc rst tick sample) ++ rest) =
      List.replicate n (l.cycle rst tick sample) ++ inputsOf l rest := by
  induction n with
  | zero => rfl
  | succ n ih => rw [List.replicate_succ, List.replicate_succ, List.cons_append, List.cons_append, inputsOf, ih]

/-- A click is a press, the step that arms, 49 ticks, a release and the deciding tick. -/
theorem inputsOf_click (l : Levels) (u : DbUnit) :
    inputsOf l (expandPseudo (.click u)) =
      (l.setButton u true).cycle false false none ::
        (List.replicate 49 ((l.setButton u true).cycle false true none) ++
          [((l.setButton u true).setButton u false).cycle false true none]) := by
  simp only [expandPseudo, List.cons_append, List.nil_append, inputsOf, inputsOf_replicate_cyc]

end Sys2Proof.Machine

namespace Sys2Proof.Proofs

open Sys2Proof.Machine

/-- Settles O38: the two states differ in the sample at the ports only. -/
theorem invalidSampleIgnored : Obligations.InvalidSampleIgnored := by
  intro s i rest x hs hvalid
  rw [← s.input_cons i rest hs] at hvalid ⊢
  exact step_toRegs_of_invalid_sample rfl rfl hvalid

/-- Settles O8: the expansions are those of the definition; the steps of a click are its cycle lines. -/
theorem pseudoOperationsExpand : Obligations.PseudoOperationsExpand := by
  intro u n v
  refine ⟨rfl, rfl, rfl, rfl, rfl, rfl, rfl, rfl, fun l => ?_⟩
  rw [inputsOf_click, List.length_cons, List.length_append, List.length_replicate, List.length_singleton]

end Sys2Proof.Proofs
end

section
/-! PROOF. The quantizer and the selection operations (spec/40_quantizer.md): the class of a sample, what `SEL_SAMPLE` keeps
of it, and when neither the sample nor the selection is touched. -/

namespace Sys2Proof.Machine

/-! ### The class of a sample -/

/-- R111, R112: the tier's threshold is exceeded, unless the tier is 0, and no higher one is. -/
theorem tierOf_comparators_spec (x : Sample) :
    (tierOf (comparators x) = 0 ∨ Config.thresholds[tierOf (comparators x)] < x) ∧
      ∀ j : Tier, tierOf (comparators x) < j → x ≤ Config.thresholds[j] := by
  obtain ⟨hexceeded, hhigher⟩ := tierOf_spec (comparators x)
  simp only [comparators_getLsbD, decide_eq_true_eq, decide_eq_false_iff_not, BitVec.not_lt] at hexceeded hhigher
  exact ⟨hexceeded, hhigher⟩

/-- The thresholds are one below the multiples of 128 (R115), but for the first, which is 0 and not -1. -/
theorem thresholds_toNat_succ : ∀ i : Tier, i ≠ 0 → Config.thresholds[i].toNat + 1 = 128 * i.val := by decide

/-- R115: between the threshold of tier `i` and the next higher one, or 1024, lie 128 samples. -/
theorem tier_val_eq_div {x : Sample} {i : Tier} (hexceeded : i = 0 ∨ Config.thresholds[i] < x)
    (hhigher : ∀ j : Tier, i < j → x ≤ Config.thresholds[j]) : i.val = x.toNat / 128 := by
  have hlower : 128 * i.val ≤ x.toNat := by
    rcases eq_or_ne i 0 with rfl | hi
    · exact Nat.zero_le _
    · rw [← thresholds_toNat_succ i hi]
      exact hexceeded.resolve_left hi
  have hupper : x.toNat < 128 * (i.val + 1) := by
    by_cases hi : i.val + 1 < 8
    · have hnext := thresholds_toNat_succ ⟨i.val + 1, hi⟩ (Fin.ne_of_val_ne (Nat.succ_ne_zero _))
      have hle := hhigher ⟨i.val + 1, hi⟩ (Nat.lt_succ_self i.val)
      exact Nat.lt_of_lt_of_eq (Nat.lt_succ_of_le hle) hnext
    · have hx := x.isLt
      omega
  omega

/-- R115: the tier of a sample is its bits 9 to 7. -/
theorem tierOf_comparators_val (x : Sample) : (tierOf (comparators x)).val = x.toNat / 128 := by
  obtain ⟨hexceeded, hhigher⟩ := tierOf_comparators_spec x
  exact tier_val_eq_div hexceeded hhigher

/-! ### The tables of a class as the rules print them -/

theorem thresholds_toNat : ∀ i : Tier, Config.thresholds[i].toNat =
    ([0x000, 0x07F, 0x0FF, 0x17F, 0x1FF, 0x27F, 0x2FF, 0x37F] : List Nat).getD i.val 0 := by decide

/-- R113. -/
theorem durations_eq : ∀ i : Tier, Config.durations[i] =
    BitVec.ofNat 8 (([0, 60, 80, 100, 120, 140, 160, 180] : List Nat).getD i.val 0) := by decide

/-- R114: one-hot, from bit 7 down. -/
theorem patterns_eq : ∀ i : Tier, Config.patterns[i] = 0x80#8 >>> i.val := by decide

/-- R116: `SEL_SAMPLE` keeps the tier of the sample at the ports and shows its pattern. -/
theorem exec_selSample (s : State) :
    exec .selSample s = .next { s with
      selTier := tierOf (comparators s.input.sample), selValid := true
      led := Config.patterns[tierOf (comparators s.input.sample)], ledStb := true
      q := classOut (tierOf (comparators s.input.sample)) } := rfl

/-! ### When the selection is kept -/

/-- R22: `sel_tier` is written by `RESET` and `SEL_SAMPLE`. -/
theorem StepCase.selTier_eq {s u : State} {op : Instr} (hu : StepCase s op u) (hreset : op ≠ .reset)
    (hsample : op ≠ .selSample) : u.selTier = s.selTier := by
  cases hu with
  | reset => exact absurd rfl hreset
  | selSample => exact absurd rfl hsample
  | _ => rfl

theorem StepCase.ne_reset {s u : State} {op : Instr} (hu : StepCase s op u) (hr : s.input.rst = false) :
    op ≠ .reset := by
  rintro rfl
  cases hu with
  | reset hrst => exact nomatch hr.symm.trans hrst

/-- `SEL_SAMPLE` is performed in SELECTING with the start debouncer in IDLE (R116). -/
theorem StepCase.selecting_idle_of_selSample {s u : State} (hu : StepCase s .selSample u) :
    s.ctrl = .selecting ∧ s.dbs.state = .idle := by
  cases hu with
  | selSample _ hc _ _ hd => exact ⟨hc, hd⟩

theorem StepCase.ne_selSample_of_running {s u : State} {op : Instr} (hu : StepCase s op u) (hc : s.ctrl = .running) :
    op ≠ .selSample := by
  rintro rfl
  exact nomatch hc.symm.trans hu.selecting_idle_of_selSample.left

theorem StepCase.ne_selSample_of_settle {s u : State} {op : Instr} (hu : StepCase s op u)
    (hd : s.dbs.state = .settle) : op ≠ .selSample := by
  rintro rfl
  exact nomatch hd.symm.trans hu.selecting_idle_of_selSample.right

/-- In SELECTING only `SEL_SAMPLE` and `RESET` write the display. -/
theorem StepCase.led_eq_of_selecting {s u : State} {op : Instr} (hu : StepCase s op u) (hc : s.ctrl = .selecting)
    (hreset : op ≠ .reset) (hsample : op ≠ .selSample) : u.led = s.led := by
  cases hu with
  | reset => exact absurd rfl hreset
  | selSample => exact absurd rfl hsample
  | selStart | selDrop | selIdle => rfl
  | runAbort _ hrun | runExpire _ hrun | runTickStep _ hrun | runTickRound _ hrun | runWait _ hrun
  | runFirstStep _ hrun | runFirstRound _ hrun => exact nomatch hc.symm.trans hrun

/-- R203: the operation that enters RUNNING is `SEL_START`, which takes the selected tier. -/
theorem StepCase.runTier_of_started {s u : State} {op : Instr} (hu : StepCase s op u) (hc : s.ctrl = .selecting)
    (hstarted : u.ctrl = .running) : u.runTier = s.selTier := by
  cases hu with
  | selStart => rfl
  | reset | runAbort | runExpire => cases hstarted
  | _ => exact nomatch hc.symm.trans hstarted

/-! ### The sample inputs in RUNNING -/

@[simp] theorem buttonOf_sample (i : Input) (v : Bool) (x : Sample) (u : DbUnit) :
    buttonOf { i with sampleValid := v, sample := x } u = buttonOf i u := by
  cases u <;> rfl

/-- R121: in RUNNING the operation performed is the same and is not `SEL_SAMPLE`, the only one that reads the sample. -/
theorem step_toRegs_of_running {s s' : State} {v : Bool} {x : Sample} (hregs : s'.toRegs = s.toRegs)
    (hi : s'.input = { s.input with sampleValid := v, sample := x }) (hc : s.ctrl = .running) :
    ∃ t t' : State, step s = .next t ∧ step s' = .next t' ∧ t'.toRegs = t.toRegs := by
  have hrst : s'.input.rst = s.input.rst := by rw [hi]
  have htick : s'.input.tick = s.input.tick := by rw [hi]
  have hbtn (u : DbUnit) : buttonOf s'.input u = buttonOf s.input u := by rw [hi, buttonOf_sample]
  obtain ⟨u, hu, hst⟩ := step_next s
  obtain ⟨u', hu', hst'⟩ := step_next s'
  rw [State.performs_congr hregs hrst htick hbtn fun hsel => nomatch hc.symm.trans hsel] at hu'
  refine ⟨_, _, hst, hst', ?_⟩
  rw [State.advance_toRegs, State.advance_toRegs]
  exact hu.toRegs_congr hu' hregs (State.settled_toRegs_congr hregs hrst htick hbtn) (fun _ => by rw [hi])
    fun hop => absurd hop (hu.ne_selSample_of_running hc)

theorem step_selTier_of_running {s t : State} (hc : s.ctrl = .running) (hr : s.input.rst = false)
    (hst : step s = .next t) : t.selTier = s.selTier := by
  obtain ⟨_, u, -, hu, rfl⟩ := step_case hst
  rw [State.advance_toRegs]
  exact hu.selTier_eq (hu.ne_reset hr) (hu.ne_selSample_of_running hc)

end Sys2Proof.Machine

namespace Sys2Proof.Proofs

open Sys2Proof.Machine

/-- Settles O14: the tier is the priority encoder's on the comparators of the sample. -/
theorem selSampleClassifies : Obligations.SelSampleClassifies := by
  intro s
  obtain ⟨hexceeded, hhigher⟩ := tierOf_comparators_spec s.input.sample
  refine ⟨tierOf (comparators s.input.sample), ?_, ?_, fun j hj => ?_⟩
  · rw [exec_selSample, classOut, durations_eq, patterns_eq]
  · rw [← thresholds_toNat]
    exact hexceeded
  · rw [← thresholds_toNat]
    exact hhigher j hj

/-- Settles O15, from the width of the classes. -/
theorem selectedTierIsTopSampleBits : Obligations.SelectedTierIsTopSampleBits :=
  fun s => ⟨_, exec_selSample s, tierOf_comparators_val s.input.sample⟩

/-- Settles O16: each of the three arms is the strobe's write alone. -/
theorem idleOperationsOnlyClearTheStrobe : Obligations.IdleOperationsOnlyClearTheStrobe :=
  fun _ => ⟨rfl, rfl, rfl⟩

/-- Settles O37: the two states differ in the sample inputs at the ports only, and `SEL_SAMPLE` is not performed. -/
theorem samplesIgnoredInRunning : Obligations.SamplesIgnoredInRunning := by
  intro s i rest v x hs hc
  rw [← s.input_cons i rest hs]
  obtain ⟨t, t', hst, hst', hregs⟩ := step_toRegs_of_running (s := s)
    (s' := { s with stimulus := { s.input with sampleValid := v, sample := x } :: rest }) rfl rfl hc
  exact ⟨t, t', hst, hst', hregs, fun hr => step_selTier_of_running hc hr hst⟩

/-- Settles O40: with the start debouncer in SETTLE the operation is neither of the two that write the selection. -/
theorem settleFreezesTheSelection : Obligations.SettleFreezesTheSelection := by
  intro s t hc hd hr hst
  obtain ⟨_, u, -, hu, rfl⟩ := step_case hst
  have hreset := hu.ne_reset hr
  have hsample := hu.ne_selSample_of_settle hd
  rw [State.advance_toRegs]
  exact ⟨hu.selTier_eq hreset hsample, hu.led_eq_of_selecting hc hreset hsample, hu.runTier_of_started hc⟩

end Sys2Proof.Proofs
end

section
/-! PROOF. The countdown engine (spec/41_countdown.md), its tables, condition signals and operations: the initial value and
the thresholds (R141, R142), what a check writes (R145, R147), what each of the family's operations does. -/

namespace Sys2Proof.Machine

/-! ### The tables -/

/-- R141: both modes, all tiers. -/
theorem initialTime_toInt : ∀ i : Tier,
    (initialTime .proportional i).toInt = ([0, 420, 560, 700, 840, 980, 1120, 1260] : List Int).getD i.val 0 ∧
    (initialTime .fixedTable i).toInt = ([0, 60, 80, 100, 120, 140, 160, 1575] : List Int).getD i.val 0 := by
  decide

theorem initialTime_proportional_ge : ∀ i : Tier, i ≠ 0 → 420 ≤ (initialTime .proportional i).toInt := by decide

theorem threshold_proportional (ft : FtTable) (i : Tier) (k : CheckNo) : threshold ft .proportional i k =
    BitVec.ofNat 16 (Config.durations[i].toNat * Config.mult * k.val / Config.den) := rfl

theorem threshold_fixedTable (ft : FtTable) (i : Tier) (k : CheckNo) : threshold ft .fixedTable i k =
    if i = 0 then 0 else (ft i k).setWidth 16 := rfl

/-- The greatest threshold is 1102, so nothing is lost in 16 bits. -/
theorem threshold_proportional_toInt (ft : FtTable) (i : Tier) (k : CheckNo) :
    (threshold ft .proportional i k).toInt =
      (([0, 60, 80, 100, 120, 140, 160, 180] : List Int).getD i.val 0 * 7 * k.val) / 8 := by
  rw [threshold_proportional]
  clear ft
  decide +revert

/-- R142: an entry of 15 bits is the same number as a signed word of 16. -/
theorem threshold_fixedTable_toInt (ft : FtTable) (i : Tier) (k : CheckNo) :
    (threshold ft .fixedTable i k).toInt = if i = 0 then 0 else ((ft i k).toNat : Int) := by
  rw [threshold_fixedTable]
  split_ifs
  · rfl
  · have hentry : ((ft i k).setWidth 16).toNat = (ft i k).toNat := BitVec.toNat_setWidth_of_le (by decide)
    have hlt := (ft i k).isLt
    rw [BitVec.toInt_eq_toNat_of_lt (by omega), hentry]

theorem threshold_nonneg (ft : FtTable) (m : Mode) (i : Tier) (k : CheckNo) : 0 ≤ (threshold ft m i k).toInt := by
  cases m with
  | proportional =>
    rw [threshold_proportional_toInt]
    decide +revert
  | fixedTable =>
    rw [threshold_fixedTable_toInt]
    split_ifs <;> omega

/-- The least threshold of a proportional run of a tier above 0 is that of tier 1 and check 1, the floor of 52.5. -/
theorem threshold_proportional_ge (ft : FtTable) {i : Tier} (hi : i ≠ 0) (j : Fin 7) :
    52 ≤ (threshold ft .proportional i j.succ).toInt := by
  rw [threshold_proportional_toInt]
  decide +revert

/-! ### What a check writes (R145) -/

/-- One check writes its own bit. -/
theorem writeLedBit_checkBit_getLsbD (led : LedPattern) (ft : FtTable) (m : Mode) (i : Tier) (k : CheckNo) (t : Ticks)
    (j : Nat) (hj : j < 8) :
    (writeLedBit led k (checkBit ft m i k t)).getLsbD j =
      if j + 1 = k.val then decide ((threshold ft m i k).toInt < t.toInt) else led.getLsbD j := by
  rw [writeLedBit_getLsbD _ _ _ _ hj, checkBit_eq]

/-- All seven checks write bits 0 to 6. -/
theorem writeBar_bar_getLsbD (led : LedPattern) (ft : FtTable) (m : Mode) (i : Tier) (t : Ticks) (j : Fin 7) :
    (writeBar led (bar ft m i t)).getLsbD j.val = decide ((threshold ft m i j.succ).toInt < t.toInt) := by
  rw [writeBar_getLsbD, bar_getLsbD]

/-! ### The operations, each as the fields it writes -/

/-- R151. -/
theorem exec_runFirstStep (s : State) :
    exec .runFirstStep s = .next { s with
      led := writeLedBit s.led s.chkK (checkBit Config.ftThr s.runMode s.runTier s.chkK s.timeLeft)
      ledStb := true, chkK := prevCheck s.chkK, phase := .run } := rfl

/-- R152. -/
theorem exec_runFirstRound (s : State) :
    exec .runFirstRound s = .next { s with
      led := writeBar s.led (bar Config.ftThr s.runMode s.runTier s.timeLeft), ledStb := true, phase := .run } := rfl

/-- R153. -/
theorem exec_runTickStep (s : State) :
    exec .runTickStep s = .next { s with
      timeLeft := s.nextTime
      led := writeLedBit s.led s.chkK (checkBit Config.ftThr s.runMode s.runTier s.chkK s.nextTime)
      ledStb := true, chkK := prevCheck s.chkK } := rfl

/-- R154. -/
theorem exec_runTickRound (s : State) :
    exec .runTickRound s = .next { s with
      timeLeft := s.nextTime
      led := writeBar s.led (bar Config.ftThr s.runMode s.runTier s.nextTime), ledStb := true } := rfl

/-- R155. -/
theorem exec_runExpire (s : State) :
    exec .runExpire s = .next { s with
      timeLeft := s.nextTime, valve := false, ctrl := .selecting, phase := .first, selValid := false
      ledStb := false } := rfl

/-! ### The condition signals of a state (R182, R201) -/

theorem State.enable_start_eq_true (s : State) : s.enable .start = true ↔ s.ctrl = .selecting ∧ s.selValid = true := by
  rw [State.enable, Bool.and_eq_true, beq_iff_eq]

theorem State.enable_stop_eq_true (s : State) : s.enable .stop = true ↔ s.ctrl = .running := by
  rw [State.enable, beq_iff_eq]

theorem State.frz_eq_true (s : State) : s.frz = true ↔ s.dbs.state = .settle := by
  rw [State.frz, beq_iff_eq]

end Sys2Proof.Machine

namespace Sys2Proof.Proofs

open Sys2Proof.Machine

/-- Settles O9, by evaluating the two tables. -/
theorem initialTimeTable : Obligations.InitialTimeTable := initialTime_toInt

/-- Settles O10: the proportional product fits in 16 bits, and so does an entry of 15 bits. -/
theorem thresholdFunction : Obligations.ThresholdFunction :=
  fun ft i k => ⟨threshold_proportional_toInt ft i k, threshold_fixedTable_toInt ft i k,
    fun m => threshold_nonneg ft m i k⟩

/-- Settles O11, signal by signal; tier 7 of proportional mode is per-step as all its tiers are. -/
theorem conditionSignals : Obligations.ConditionSignals := by
  refine ⟨fun m i => ?_, fun t => ?_, fun c => ?_, fun s => ?_⟩
  · rw [styleOf_eq_true]
    cases m <;> simp
  · rw [expireOf_eq, decide_eq_true_eq]
  · rw [lastOf_eq, decide_eq_true_eq]
  · exact ⟨s.enable_start_eq_true, s.enable_stop_eq_true, s.frz_eq_true⟩

/-- Settles O18: the counter after the step is the decremented one. -/
theorem runExpireClosesTheRun : Obligations.RunExpireClosesTheRun :=
  fun s => ⟨_, exec_runExpire s, s.nextTime_toInt⟩

/-- Settles O19: one check, with the counter as it is. -/
theorem runFirstStepChecksOneSegment : Obligations.RunFirstStepChecksOneSegment :=
  fun s => ⟨_, exec_runFirstStep s, writeLedBit_checkBit_getLsbD _ _ _ _ _ _⟩

/-- Settles O20: seven checks, with the counter as it is. -/
theorem runFirstRoundChecksAllSegments : Obligations.RunFirstRoundChecksAllSegments :=
  fun s => ⟨_, exec_runFirstRound s, writeBar_top _ _, writeBar_bar_getLsbD _ _ _ _ _⟩

/-- Settles O21: one check, with the decremented counter. -/
theorem runTickStepCountsAndChecks : Obligations.RunTickStepCountsAndChecks :=
  fun s => ⟨_, _, exec_runTickStep s, s.nextTime_toInt, writeLedBit_checkBit_getLsbD _ _ _ _ _ _⟩

/-- Settles O22: seven checks, with the decremented counter. -/
theorem runTickRoundCountsAndChecks : Obligations.RunTickRoundCountsAndChecks :=
  fun s => ⟨_, _, exec_runTickRound s, s.nextTime_toInt, writeBar_top _ _, writeBar_bar_getLsbD _ _ _ _ _⟩

end Sys2Proof.Proofs
end

section
/-! PROOF. The invariants of a run (spec/41_countdown.md R145 to R160): the bar of a per-round run, the check counter and the
bar of a per-step run, and the LEDs that a run leaves when it expires. -/

namespace Sys2Proof.Machine

/-! ### The bar of a per-round run -/

/-- Seven checks with the new counter value are made wherever the counter changes in a per-round run. -/
theorem StepCase.barShowsTime {s u : State} {op : Instr} (hu : StepCase s op u) (h : BarShowsTime s) :
    BarShowsTime u := by
  cases hu with
  | runFirstRound | runTickRound => exact fun _ => writeBar_bar_getLsbD _ _ _ _ _
  | runWait => exact h
  | runFirstStep _ _ _ _ hs | runTickStep _ _ _ _ _ _ hs => exact fun hrun => nomatch hs.symm.trans hrun.2.2
  | selStart => exact fun hrun => nomatch hrun.2.1
  | reset | runAbort | runExpire => exact fun hrun => nomatch hrun.1
  | selSample _ hc | selDrop _ hc | selIdle _ hc => exact fun hrun => nomatch hc.symm.trans hrun.1

theorem BarShowsTime.of_toRegs_eq {s t : State} (h : BarShowsTime s) (he : t.toRegs = s.toRegs) : BarShowsTime t := by
  simpa only [BarShowsTime, he] using h

/-! ### The check counter -/

theorem CheckFollowsTime.of_selecting {s : State} (hc : s.ctrl = .selecting) : CheckFollowsTime s :=
  ⟨fun hrun => (nomatch hc.symm.trans hrun.1), fun hrun => (nomatch hc.symm.trans hrun.1)⟩

/-- R147: the checks go around 7, 6, ..., 1, 7, one for each counted tick. -/
theorem prevCheck_due {k : CheckNo} {n : Int} (h : (k.val : Int) = 7 - n % 7) :
    ((prevCheck k).val : Int) = 7 - (n + 1) % 7 := by
  rw [prevCheck_val k (by omega)]
  split_ifs <;> omega

/-- In the run of `s` one more tick is counted when the counter is decremented. -/
theorem State.counted_nextTime {s : State} (he : 1 < s.timeLeft.toInt) :
    (initialTime s.runMode s.runTier).toInt - s.nextTime.toInt = s.counted + 1 := by
  rw [s.nextTime_toInt (by omega), State.counted]
  omega

/-- Before the first check nothing is counted. -/
theorem CheckFollowsTime.counted_of_first {s : State} (h : CheckFollowsTime s) (hc : s.ctrl = .running)
    (hp : s.phase = .first) : s.counted = 0 := by
  rw [State.counted, (h.1 ⟨hc, hp⟩).2, Int.sub_self]

/-- The check due in a per-step run, by the ticks counted. -/
theorem CheckFollowsTime.chkK_eq {s : State} (h : CheckFollowsTime s) (hc : s.ctrl = .running) (hp : s.phase = .run)
    (hs : styleOf s.runMode s.runTier = true) : (s.chkK.val : Int) = 7 - (s.counted + 1) % 7 :=
  h.2 ⟨hc, hp, hs⟩

theorem StepCase.checkFollowsTime {s u : State} {op : Instr} (hu : StepCase s op u) (h : CheckFollowsTime s) :
    CheckFollowsTime u := by
  cases hu with
  | selStart => exact ⟨fun _ => ⟨rfl, rfl⟩, fun hrun => (nomatch hrun.2.1)⟩
  | runFirstStep _ hc _ hp =>
    obtain ⟨hchk, htime⟩ := h.1 ⟨hc, hp⟩
    refine ⟨nofun, fun _ => ?_⟩
    have hdue : ((prevCheck s.chkK).val : Int) = 7 - (s.counted + 1) % 7 :=
      prevCheck_due (by rw [hchk, h.counted_of_first hc hp]; rfl)
    exact hdue
  | runTickStep _ hc _ hp _ he hs =>
    refine ⟨fun hfirst => (nomatch hp.symm.trans hfirst.2), fun _ => ?_⟩
    have hdue := prevCheck_due (h.chkK_eq hc hp hs)
    rw [← State.counted_nextTime he] at hdue
    exact hdue
  | runFirstRound _ _ _ _ hs => exact ⟨nofun, fun hrun => (nomatch hs.symm.trans hrun.2.2)⟩
  | runTickRound _ _ _ hp _ _ hs =>
    exact ⟨fun hfirst => (nomatch hp.symm.trans hfirst.2), fun hrun => (nomatch hs.symm.trans hrun.2.2)⟩
  | runWait => exact h
  | reset | runAbort | runExpire => exact .of_selecting rfl
  | selSample _ hc | selDrop _ hc | selIdle _ hc => exact .of_selecting hc

theorem CheckFollowsTime.of_toRegs_eq {s t : State} (h : CheckFollowsTime s) (he : t.toRegs = s.toRegs) :
    CheckFollowsTime t := by
  simpa only [CheckFollowsTime, he] using h

/-! ### The bar of a per-step run -/

/-- Bar bit `j` of a per-step run after `n` counted ticks, with the counter at `t`: what check `j + 1` wrote at its last turn,
and the selection pattern's bit where that turn is still to come. -/
def stepBarBit (m : Mode) (i : Tier) (n t : Int) (j : Fin 7) : Bool :=
  if (n + j.succ.val) % 7 ≤ n then
    decide ((threshold Config.ftThr m i j.succ).toInt < t + (n + j.succ.val) % 7)
  else Config.patterns[i].getLsbD j.val

/-- The last clause of the invariant, by `stepBarBit`. -/
theorem stepBarShowsLastChecks_iff (s : State) : StepBarShowsLastChecks s ↔
    (s.ctrl = .running ∧ s.phase = .first → s.led = Config.patterns[s.runTier]) ∧
    (s.ctrl = .running ∧ s.phase = .run → s.led.getLsbD 7 = Config.patterns[s.runTier].getLsbD 7) ∧
    (s.ctrl = .running ∧ s.phase = .run ∧ styleOf s.runMode s.runTier = true →
      ∀ j : Fin 7, s.led.getLsbD j.val = stepBarBit s.runMode s.runTier s.counted s.timeLeft.toInt j) :=
  Iff.rfl

theorem State.lag_range (s : State) (k : CheckNo) : 0 ≤ s.lag k ∧ s.lag k ≤ 6 := by
  unfold State.lag
  omega

/-- Below 0, which stands for "before the first check", every turn is still to come. -/
theorem stepBarBit_of_neg {m : Mode} {i : Tier} {n t : Int} {j : Fin 7} (hn : n < 0) :
    stepBarBit m i n t j = Config.patterns[i].getLsbD j.val :=
  if_neg (by omega)

/-- From the seventh check on every turn has come, and the comparison is with at most 6 more than the counter. -/
theorem stepBarBit_of_six_le {m : Mode} {i : Tier} {n t : Int} {j : Fin 7} (hn : 6 ≤ n)
    (hlow : t + 6 ≤ (threshold Config.ftThr m i j.succ).toInt) : stepBarBit m i n t j = false := by
  rw [stepBarBit, if_pos (by omega), decide_eq_false_iff_not]
  omega

/-- One more counted tick: the check then due has lag 0, and every other check's lag is one more. -/
theorem lag_succ {n k j : Int} (hk : k = 7 - (n + 1) % 7) (hj : 1 ≤ j) (hj7 : j ≤ 7) :
    (n + 1 + j) % 7 = if j = k then 0 else (n + j) % 7 + 1 := by
  obtain ⟨q, hq⟩ : ∃ q, n = 7 * q + 6 - k := ⟨(n + 1) / 7, by omega⟩
  split_ifs <;> omega

/-- So the check due writes its own bit, and every other bit is still the outcome of the same comparison. -/
theorem stepBarBit_succ {m : Mode} {i : Tier} {n t : Int} {k : CheckNo} (hn : 0 ≤ n + 1)
    (hk : (k.val : Int) = 7 - (n + 1) % 7) (j : Fin 7) :
    stepBarBit m i (n + 1) (t - 1) j =
      if j.succ = k then decide ((threshold Config.ftThr m i k).toInt < t - 1) else stepBarBit m i n t j := by
  have hlag := lag_succ (j := j.succ.val) hk (by simp) (by omega)
  simp only [Nat.cast_inj, Fin.val_inj] at hlag
  split_ifs with hdue
  · rw [stepBarBit, hlag, if_pos hdue, if_pos hn, Int.add_zero, hdue]
  · rw [if_neg hdue] at hlag
    have hsame (lag : Int) : t - 1 + (lag + 1) = t + lag := by omega
    simp only [stepBarBit, hlag, Int.add_le_add_iff_right, hsame]

/-- One check writes the bit that its turn asks for. -/
theorem writeLedBit_stepBarBit {m : Mode} {i : Tier} {n : Int} {t : Ticks} {k : CheckNo} {led : LedPattern}
    (hn : 0 ≤ n + 1) (hk : (k.val : Int) = 7 - (n + 1) % 7)
    (hled : ∀ j : Fin 7, led.getLsbD j.val = stepBarBit m i n (t.toInt + 1) j) (j : Fin 7) :
    (writeLedBit led k (checkBit Config.ftThr m i k t)).getLsbD j.val = stepBarBit m i (n + 1) t.toInt j := by
  have hbit := stepBarBit_succ (m := m) (i := i) (t := t.toInt + 1) hn hk j
  rw [Int.add_sub_cancel] at hbit
  simp only [writeLedBit_checkBit_getLsbD _ _ _ _ _ _ _ (show j.val < 8 by omega), hbit, hled, Fin.ext_iff, Fin.val_succ]

theorem StepBarShowsLastChecks.of_selecting {s : State} (hc : s.ctrl = .selecting) : StepBarShowsLastChecks s :=
  ⟨fun hrun => (nomatch hc.symm.trans hrun.1), fun hrun => (nomatch hc.symm.trans hrun.1),
    fun hrun => (nomatch hc.symm.trans hrun.1)⟩

/-- The item of R34 that bounds the counter, as a count. -/
theorem TimeWithinRun.counted_nonneg {s : State} (h : TimeWithinRun s) (hc : s.ctrl = .running) : 0 ≤ s.counted := by
  obtain ⟨-, hmax, -⟩ := h.1 hc
  exact Int.sub_nonneg_of_le hmax

/-- The first check of a run: check 7, with nothing counted, over the selection pattern. -/
theorem StepBarShowsLastChecks.first_check {s : State} (h : StepBarShowsLastChecks s) (hcheck : CheckFollowsTime s)
    (hc : s.ctrl = .running) (hp : s.phase = .first) (j : Fin 7) :
    (writeLedBit s.led s.chkK (checkBit Config.ftThr s.runMode s.runTier s.chkK s.timeLeft)).getLsbD j.val =
      stepBarBit s.runMode s.runTier s.counted s.timeLeft.toInt j := by
  have hled : s.led = Config.patterns[s.runTier] := h.1 ⟨hc, hp⟩
  have hchk : (s.chkK.val : Int) = 7 - (-1 + 1) % 7 := by rw [(hcheck.1 ⟨hc, hp⟩).1]; rfl
  rw [hcheck.counted_of_first hc hp]
  refine writeLedBit_stepBarBit (n := -1) (by decide) hchk (fun j => ?_) j
  rw [hled, stepBarBit_of_neg (by decide)]

/-- A check of a per-step run at a tick: the check due, with the counter after it. -/
theorem StepBarShowsLastChecks.tick_check {s : State} (h : StepBarShowsLastChecks s) (hcheck : CheckFollowsTime s)
    (htime : TimeWithinRun s) (hc : s.ctrl = .running) (hp : s.phase = .run)
    (hs : styleOf s.runMode s.runTier = true) (he : 1 < s.timeLeft.toInt) (j : Fin 7) :
    (writeLedBit s.led s.chkK (checkBit Config.ftThr s.runMode s.runTier s.chkK s.nextTime)).getLsbD j.val =
      stepBarBit s.runMode s.runTier (s.counted + 1) s.nextTime.toInt j := by
  obtain ⟨-, -, hbits⟩ := (stepBarShowsLastChecks_iff s).mp h
  have hcounted := htime.counted_nonneg hc
  refine writeLedBit_stepBarBit (by omega) (hcheck.chkK_eq hc hp hs) (fun j => ?_) j
  rw [hbits ⟨hc, hp, hs⟩, s.nextTime_toInt (by omega), Int.sub_add_cancel]

theorem StepCase.stepBarShowsLastChecks {s u : State} {op : Instr} (hu : StepCase s op u) (hshown : SelectionShown s)
    (htime : TimeWithinRun s) (hcheck : CheckFollowsTime s) (h : StepBarShowsLastChecks s) :
    StepBarShowsLastChecks u := by
  have ⟨hpattern, htop, _⟩ := h
  cases hu with
  | selStart _ hc hf =>
    obtain ⟨-, hen, -⟩ := (s.fires_eq_true .start).mp hf
    exact ⟨fun _ => hshown (s.enable_start_eq_true.mp hen), fun hrun => (nomatch hrun.2),
      fun hrun => (nomatch hrun.2.1)⟩
  | runFirstStep _ hc _ hp =>
    exact ⟨nofun, fun _ => (writeLedBit_top _ _ _).trans (congrArg (·.getLsbD 7) (hpattern ⟨hc, hp⟩)),
      fun _ => h.first_check hcheck hc hp⟩
  | runTickStep _ hc _ hp _ he hs =>
    have hbits := h.tick_check hcheck htime hc hp hs he
    rw [← State.counted_nextTime he] at hbits
    exact ⟨fun hfirst => (nomatch hp.symm.trans hfirst.2), fun _ => (writeLedBit_top _ _ _).trans (htop ⟨hc, hp⟩),
      fun _ => hbits⟩
  | runFirstRound _ hc _ hp hs =>
    exact ⟨nofun, fun _ => (writeBar_top _ _).trans (congrArg (·.getLsbD 7) (hpattern ⟨hc, hp⟩)),
      fun hrun => (nomatch hs.symm.trans hrun.2.2)⟩
  | runTickRound _ hc _ hp _ _ hs =>
    exact ⟨fun hfirst => (nomatch hp.symm.trans hfirst.2), fun _ => (writeBar_top _ _).trans (htop ⟨hc, hp⟩),
      fun hrun => (nomatch hs.symm.trans hrun.2.2)⟩
  | runWait => exact h
  | reset | runAbort | runExpire => exact .of_selecting rfl
  | selSample _ hc | selDrop _ hc | selIdle _ hc => exact .of_selecting hc

theorem StepBarShowsLastChecks.of_toRegs_eq {s t : State} (h : StepBarShowsLastChecks s) (he : t.toRegs = s.toRegs) :
    StepBarShowsLastChecks t := by
  rw [stepBarShowsLastChecks_iff] at h ⊢
  simpa only [State.counted, he] using h

/-! ### The LEDs at the end of a run (R155, R157) -/

/-- `RUN_EXPIRE` is performed with the counter at most 1, past the first check, and writes no LED. -/
theorem StepCase.of_runExpire {s u : State} (hu : StepCase s .runExpire u) :
    s.ctrl = .running ∧ s.phase = .run ∧ s.timeLeft.toInt ≤ 1 ∧ u.led = s.led := by
  cases hu with
  | runExpire _ hc _ hp _ he => exact ⟨hc, hp, he, rfl⟩

/-- A run that starts above 0 never sees the counter at 0 (R34 item 5). -/
theorem TimeWithinRun.timeLeft_eq_one {s : State} (h : TimeWithinRun s) (hc : s.ctrl = .running)
    (he : s.timeLeft.toInt ≤ 1) (hpos : 0 < (initialTime s.runMode s.runTier).toInt) : s.timeLeft.toInt = 1 := by
  obtain ⟨hnonneg, -, hzero⟩ := h.1 hc
  have hne : s.timeLeft.toInt ≠ 0 := fun h0 => by
    rw [hzero h0] at hpos
    exact absurd hpos (by decide)
  omega

/-- A per-round bar at a counter of 1 lights the thresholds that are 0. -/
theorem BarShowsTime.led_at_one {s : State} (h : BarShowsTime s) (hc : s.ctrl = .running) (hp : s.phase = .run)
    (hs : styleOf s.runMode s.runTier = false) (hone : s.timeLeft.toInt = 1) (j : Fin 7) :
    s.led.getLsbD j.val = decide ((threshold Config.ftThr s.runMode s.runTier j.succ).toInt = 0) := by
  have hnonneg := threshold_nonneg Config.ftThr s.runMode s.runTier j.succ
  rw [h ⟨hc, hp, hs⟩ j, hone, decide_eq_decide]
  omega

/-- A proportional run of a tier above 0 has made every check by then, and its thresholds are above the counter values of the
last seven. -/
theorem StepBarShowsLastChecks.dark_at_one {s : State} (h : StepBarShowsLastChecks s) (hc : s.ctrl = .running)
    (hp : s.phase = .run) (hm : s.runMode = .proportional) (hi : s.runTier ≠ 0) (hone : s.timeLeft.toInt = 1)
    (j : Fin 7) : s.led.getLsbD j.val = false := by
  obtain ⟨-, -, hbits⟩ := (stepBarShowsLastChecks_iff s).mp h
  have hinit := initialTime_proportional_ge s.runTier hi
  have hlow := threshold_proportional_ge Config.ftThr hi j
  rw [hbits ⟨hc, hp, (styleOf_eq_true _ _).mpr (.inl hm)⟩ j, hm, hone]
  refine stepBarBit_of_six_le ?_ (by omega)
  rw [State.counted, hm, hone]
  omega

end Sys2Proof.Machine

namespace Sys2Proof.Proofs

open Sys2Proof.Machine

/-- Settles O49, by the cases of a step. -/
theorem checkFollowsTimeKept : Obligations.CheckFollowsTimeKept := by
  intro s t h hst
  obtain ⟨_, u, -, hu, rfl⟩ := step_case hst
  exact (hu.checkFollowsTime h).of_toRegs_eq u.advance_toRegs

/-- Settles O52, by the cases of a step; a lag is a remainder modulo 7. -/
theorem stepBarKept : Obligations.StepBarKept := by
  intro s t hinv hcheck h hst
  obtain ⟨-, -, -, hshown, htime, -⟩ := hinv
  obtain ⟨_, u, -, hu, rfl⟩ := step_case hst
  exact ⟨(hu.stepBarShowsLastChecks hshown htime hcheck h).of_toRegs_eq u.advance_toRegs, u.advance.lag_range⟩

/-- Settles O48, by the cases of a step. -/
theorem barShowsTimeKept : Obligations.BarShowsTimeKept := by
  intro s t h hst
  obtain ⟨_, u, -, hu, rfl⟩ := step_case hst
  exact (hu.barShowsTime h).of_toRegs_eq u.advance_toRegs

/-- Settles O53: with `INIT` above 0 the last tick of a run finds the counter at 1. -/
theorem ledsLeftAtExpiry : Obligations.LedsLeftAtExpiry := by
  intro s t hinv _ hround hstep hop hst
  obtain ⟨-, -, -, -, htime, -⟩ := hinv
  obtain ⟨_, u, rfl, hu, rfl⟩ := step_case hst
  rw [hop] at hu
  obtain ⟨hc, hp, he, hled⟩ := hu.of_runExpire
  rw [State.advance_toRegs, hled]
  refine ⟨rfl, fun hs hpos => ?_, fun hm hi => ?_⟩
  · exact hround.led_at_one hc hp hs (htime.timeLeft_eq_one hc he hpos)
  · have hinit := initialTime_proportional_ge s.runTier hi
    exact hstep.dark_at_one hc hp hm hi (htime.timeLeft_eq_one hc he (by rw [hm]; omega))

end Sys2Proof.Proofs
end

section
/-! PROOF. How long a run lasts (spec/41_countdown.md R157): a run that is neither aborted nor reset goes on, one count less
for each tick, until the tick that finds the counter at 1 or below. -/

namespace Sys2Proof.Machine

/-- None of the next `n` steps from `s` aborts or resets. -/
def Undisturbed (n : Nat) (s : State) : Prop := ∀ op ∈ operationsOf n s, op ≠ .runAbort ∧ op ≠ .reset

theorem undisturbed_succ {n : Nat} {s t : State} (h : step s = .next t) :
    Undisturbed (n + 1) s ↔ (s.performs ≠ .runAbort ∧ s.performs ≠ .reset) ∧ Undisturbed n t := by
  simp only [Undisturbed, operationsOf_succ h, List.forall_mem_cons]

/-- From `s` to `t` the run goes on, past its first check, with the valve as it was and `n` less on the counter. -/
structure RunGoesOn (s t : State) (n : Int) : Prop where
  ctrl : t.ctrl = .running
  phase : t.phase = .run
  valve : t.valve = s.valve
  timeLeft : t.timeLeft.toInt = s.timeLeft.toInt - n

theorem RunGoesOn.trans {s m t : State} {a b : Int} (h : RunGoesOn s m a) (h' : RunGoesOn m t b) :
    RunGoesOn s t (a + b) where
  ctrl := h'.ctrl
  phase := h'.phase
  valve := h'.valve.trans h.valve
  timeLeft := by rw [h'.timeLeft, h.timeLeft]; omega

/-- The next input at the ports changes no register. -/
theorem RunGoesOn.advance {s u : State} {n : Int} (h : RunGoesOn s u n) : RunGoesOn s u.advance n := by
  obtain ⟨hc, hp, hv, ht⟩ := h
  constructor <;> simpa only [State.advance_toRegs]

/-! ### One step of an undisturbed run -/

/-- The first check counts no tick (R151, R152). -/
theorem StepCase.runGoesOn_of_first {s u : State} {op : Instr} (hu : StepCase s op u) (hc : s.ctrl = .running)
    (hp : s.phase = .first) (hop : op ≠ .runAbort ∧ op ≠ .reset) : RunGoesOn s u 0 := by
  cases hu with
  | reset => exact absurd rfl hop.2
  | runAbort => exact absurd rfl hop.1
  | runFirstStep | runFirstRound => exact ⟨hc, rfl, rfl, (Int.sub_zero _).symm⟩
  | runExpire _ _ _ hrun | runTickStep _ _ _ hrun | runTickRound _ _ _ hrun | runWait _ _ _ hrun =>
    exact nomatch hp.symm.trans hrun
  | selStart _ hsel | selSample _ hsel | selDrop _ hsel | selIdle _ hsel => exact nomatch hc.symm.trans hsel

/-- A tick above 1 is counted, and a step without a tick only waits (R153, R154, R156). -/
theorem StepCase.runGoesOn {s u : State} {op : Instr} (hu : StepCase s op u) (hc : s.ctrl = .running)
    (hp : s.phase = .run) (hop : op ≠ .runAbort ∧ op ≠ .reset)
    (hlong : s.input.tick = true → 1 < s.timeLeft.toInt) : RunGoesOn s u s.input.tick.toInt := by
  cases hu with
  | reset => exact absurd rfl hop.2
  | runAbort => exact absurd rfl hop.1
  | runExpire _ _ _ _ ht he => exact absurd (hlong ht) (Int.not_lt.mpr he)
  | runTickStep _ _ _ _ ht he | runTickRound _ _ _ _ ht he =>
    rw [ht]
    exact ⟨hc, hp, rfl, s.nextTime_toInt (by omega)⟩
  | runWait _ _ _ _ ht =>
    rw [ht]
    exact ⟨hc, hp, rfl, (Int.sub_zero _).symm⟩
  | runFirstStep _ _ _ hfirst | runFirstRound _ _ _ hfirst => exact nomatch hp.symm.trans hfirst
  | selStart _ hsel | selSample _ hsel | selDrop _ hsel | selIdle _ hsel => exact nomatch hc.symm.trans hsel

/-- The tick that finds the counter at 1 or below ends the run (R155). -/
theorem StepCase.eq_runExpire {s u : State} {op : Instr} (hu : StepCase s op u) (hc : s.ctrl = .running)
    (hp : s.phase = .run) (hop : op ≠ .runAbort ∧ op ≠ .reset) (ht : s.input.tick = true)
    (he : s.timeLeft.toInt ≤ 1) : op = .runExpire := by
  cases hu with
  | runExpire => rfl
  | reset => exact absurd rfl hop.2
  | runAbort => exact absurd rfl hop.1
  | runTickStep _ _ _ _ _ hlong | runTickRound _ _ _ _ _ hlong => exact absurd hlong (Int.not_lt.mpr he)
  | runWait _ _ _ _ hquiet => exact nomatch ht.symm.trans hquiet
  | runFirstStep _ _ _ hfirst | runFirstRound _ _ _ hfirst => exact nomatch hp.symm.trans hfirst
  | selStart _ hsel | selSample _ hsel | selDrop _ hsel | selIdle _ hsel => exact nomatch hc.symm.trans hsel

theorem StepCase.closed_of_runExpire {s u : State} (hu : StepCase s .runExpire u) :
    u.ctrl = .selecting ∧ u.valve = false ∧ u.led = s.led ∧ u.ledStb = false := by
  cases hu
  exact ⟨rfl, rfl, rfl, rfl⟩

/-! ### Several steps of an undisturbed run -/

theorem ticksIn_cons (i : Input) (ws : List Input) : (ticksIn (i :: ws) : Int) = i.tick.toInt + ticksIn ws := by
  cases ht : i.tick <;> simp [ticksIn, ht]
  omega

/-- Past the first check, inputs with fewer ticks than `max(time_left, 1)` are counted and the run goes on. -/
theorem runSteps_runGoesOn {ws rest : List Input} {n : Nat} {s : State} (hc : s.ctrl = .running) (hp : s.phase = .run)
    (hs : s.stimulus = ws ++ rest) (hquiet : Undisturbed (ws.length + n) s)
    (hticks : (ticksIn ws : Int) + 1 ≤ max s.timeLeft.toInt 1) :
    ∃ t, runSteps ws.length s = .next t ∧ t.stimulus = rest ∧ Undisturbed n t ∧ RunGoesOn s t (ticksIn ws) := by
  induction ws generalizing s with
  | nil => exact ⟨s, rfl, hs, by simpa using hquiet, hc, hp, rfl, (Int.sub_zero _).symm⟩
  | cons i ws ih =>
    obtain ⟨u, hu, hst⟩ := step_next s
    rw [List.length_cons, Nat.add_right_comm, undisturbed_succ hst] at hquiet
    obtain ⟨hop, hquiet⟩ := hquiet
    rw [ticksIn_cons] at hticks
    have hi : s.input = i := s.input_cons i _ hs
    have hon := (hu.runGoesOn hc hp hop fun ht => by rw [← hi, ht, Bool.toInt_true] at hticks; omega).advance
    rw [hi] at hon
    have htime := hon.timeLeft
    have hnonneg : 0 ≤ i.tick.toInt := by cases i.tick <;> decide
    obtain ⟨t, hrun, hrest, hquiet, hon'⟩ :=
      ih hon.ctrl hon.phase (by rw [step_stimulus hst, hs]; rfl) hquiet (by omega)
    refine ⟨t, ?_, hrest, hquiet, ?_⟩
    · rw [List.length_cons, runSteps_succ, hst]
      exact hrun
    · rw [ticksIn_cons]
      exact hon.trans hon'

/-- The same from the run's start, with the step of the first check before them. -/
theorem runSteps_runGoesOn_of_first {g : Input} {ws rest : List Input} {n : Nat} {s : State} (hc : s.ctrl = .running)
    (hp : s.phase = .first) (hs : s.stimulus = g :: (ws ++ rest)) (hquiet : Undisturbed (ws.length + n + 1) s)
    (hticks : (ticksIn ws : Int) + 1 ≤ max s.timeLeft.toInt 1) :
    ∃ t, runSteps (ws.length + 1) s = .next t ∧ t.stimulus = rest ∧ Undisturbed n t ∧ RunGoesOn s t (ticksIn ws) := by
  obtain ⟨u, hu, hst⟩ := step_next s
  obtain ⟨hop, hquiet⟩ := (undisturbed_succ hst).mp hquiet
  have hon := (hu.runGoesOn_of_first hc hp hop).advance
  have htime := hon.timeLeft
  obtain ⟨t, hrun, hrest, hquiet, hon'⟩ :=
    runSteps_runGoesOn hon.ctrl hon.phase (by rw [step_stimulus hst, hs]; rfl) hquiet (by omega)
  refine ⟨t, ?_, hrest, hquiet, by simpa using hon.trans hon'⟩
  rw [runSteps_succ, hst]
  exact hrun

end Sys2Proof.Machine

namespace Sys2Proof.Proofs

open Sys2Proof.Machine

/-- Settles O51: the run goes on to the step of the last tick `z`, which is counted if the counter is still above 1 and ends
the run otherwise. -/
theorem runCountsItsTicks : Obligations.RunCountsItsTicks := by
  intro s g ws z rest hc hp hinit hs hz hquiet hticks
  rw [← hinit] at hticks ⊢
  obtain ⟨t, hrun, hrest, hquiet, hon⟩ := runSteps_runGoesOn_of_first (n := 1) hc hp hs hquiet hticks
  obtain ⟨u, hu, hst⟩ := step_next t
  obtain ⟨hop, -⟩ := (undisturbed_succ hst).mp hquiet
  have htick : t.input.tick = true := by rw [t.input_cons z rest hrest, hz]
  have htime := hon.timeLeft
  refine ⟨t, u.advance, hrun, hst, hon.ctrl, hon.valve, htime, fun hmore => ?_, fun hlast => ?_⟩
  · have hon' := (hu.runGoesOn hon.ctrl hon.phase hop fun _ => by omega).advance
    exact ⟨hon'.ctrl, hon'.valve.trans hon.valve⟩
  · have hexpire := hu.eq_runExpire hon.ctrl hon.phase hop htick (by omega)
    rw [hexpire] at hu
    rw [State.advance_toRegs]
    exact ⟨hexpire, hu.closed_of_runExpire⟩

end Sys2Proof.Proofs
end

section
/-! PROOF. The debouncers (spec/42_debouncer.md): their operations (R184 to R191), one step of a unit, the exclusion of the two
units (R194), and the settle delay of 50 ticks from a press to its decision (R192). -/

namespace Sys2Proof.Machine

/-! ### The count -/

/-- A positive count is lowered without wrapping (R188). -/
theorem settleCount_sub_one_toNat {c : SettleCount} (h : 0 < c.toNat) : (c - 1).toNat = c.toNat - 1 := by
  bv_omega

/-! ### A unit's operation in a step -/

theorem State.debounceOp_of_rst {s : State} (u : DbUnit) (hr : s.input.rst = true) : s.debounceOp u = .dbReset u := by
  rw [State.debounceOp_eq, if_pos hr]

theorem State.debounceOp_of_disabled {s : State} {u : DbUnit} (hr : s.input.rst = false) (hen : s.enable u = false) :
    s.debounceOp u = .dbDisabled u := by
  simp [State.debounceOp_eq, hr, hen]

/-- R191: the button still reads 1 at the last tick. -/
theorem State.debounceOp_of_rejects {s : State} {u : DbUnit} (hr : s.input.rst = false) (hen : s.enable u = true)
    (hd : (s.db u).state = .settle) (ht : s.input.tick = true) (hlast : lastOf (s.db u).cnt = true)
    (hbtn : buttonOf s.input u = true) : s.debounceOp u = .dbReject u := by
  simp [State.debounceOp_eq, hr, hen, hd, ht, hlast, hbtn]

theorem State.debounceOp_eq_dbFire {s : State} {u : DbUnit} : s.debounceOp u = .dbFire u ↔ s.fires u = true := by
  rw [State.fires_eq, decide_eq_true_eq]

/-- R182: in every state one of the two units is disabled. -/
theorem State.exists_disabled (s : State) : ∃ u, s.enable u = false := by
  cases hc : s.ctrl with
  | selecting => exact ⟨.stop, State.enable_stop_of_selecting hc⟩
  | running => exact ⟨.start, State.enable_start_of_running hc⟩

/-- R194: a unit that fires is enabled, and the units are not both enabled. -/
theorem State.not_fires_both (s : State) : ¬(s.fires .start = true ∧ s.fires .stop = true) := by
  rintro ⟨hstart, hstop⟩
  obtain ⟨u, hoff⟩ := s.exists_disabled
  have hquiet := State.fires_of_disabled hoff
  cases u with
  | start => exact nomatch hstart.symm.trans hquiet
  | stop => exact nomatch hstop.symm.trans hquiet

/-! ### A unit's registers and fire signal after a step -/

theorem State.fires_of_rst {s : State} (u : DbUnit) (hr : s.input.rst = true) : s.fires u = false := by
  simp [State.fires, hr]

theorem State.fires_of_no_tick {s : State} (u : DbUnit) (ht : s.input.tick = false) : s.fires u = false := by
  simp [State.fires, ht]

section Enabled

variable {s : State} {u : DbUnit} (hr : s.input.rst = false) (hen : s.enable u = true)
include hr hen

/-- R186, R187. -/
theorem State.dbNext_of_idle (hd : (s.db u).state = .idle) :
    s.dbNext u = if buttonOf s.input u then ⟨.settle, 50⟩ else s.db u := by
  simp [State.dbNext, hr, hen, hd, Config.settle]

/-- R189. -/
theorem State.dbNext_of_hold (hd : (s.db u).state = .settle) (ht : s.input.tick = false) : s.dbNext u = s.db u := by
  simp [State.dbNext, hr, hen, hd, ht]

/-- R188. -/
theorem State.dbNext_of_count (hd : (s.db u).state = .settle) (ht : s.input.tick = true)
    (hlast : lastOf (s.db u).cnt = false) : s.dbNext u = ⟨.settle, (s.db u).cnt - 1⟩ := by
  simp [State.dbNext, hr, hen, hd, ht, hlast]

/-- R190, R191: either way the unit is IDLE again. -/
theorem State.dbNext_of_last (hd : (s.db u).state = .settle) (ht : s.input.tick = true)
    (hlast : lastOf (s.db u).cnt = true) : s.dbNext u = Debouncer.cleared := by
  simp [State.dbNext, hr, hen, hd, ht, hlast]

/-- R190, R191: the event is given exactly when the button reads 0. -/
theorem State.fires_of_last (hd : (s.db u).state = .settle) (ht : s.input.tick = true)
    (hlast : lastOf (s.db u).cnt = true) : s.fires u = !buttonOf s.input u := by
  simp [State.fires, hr, hen, hd, ht, hlast]

end Enabled

/-- R184, R185: a unit that is reset or disabled is cleared without an event. -/
theorem State.cleared_of_off {s : State} {u : DbUnit} (hoff : s.input.rst = true ∨ s.enable u = false) :
    s.dbNext u = Debouncer.cleared ∧ s.fires u = false :=
  hoff.elim (fun hr => ⟨State.dbNext_of_rst u hr, State.fires_of_rst u hr⟩)
    fun hen => ⟨State.dbNext_of_disabled hen, State.fires_of_disabled hen⟩

theorem StepCase.db_eq {s v : State} {op : Instr} (hv : StepCase s op v) (u : DbUnit) : v.db u = s.dbNext u := by
  obtain ⟨hdbs, hdbp, -, -⟩ := hv.debouncers_eq
  cases u with
  | start => exact hdbs
  | stop => exact hdbp

theorem StepCase.fire_eq {s v : State} {op : Instr} (hv : StepCase s op v) (u : DbUnit) : v.fire u = s.fires u := by
  obtain ⟨-, -, hstart, hstop⟩ := hv.debouncers_eq
  cases u with
  | start => exact hstart
  | stop => exact hstop

@[simp] theorem State.advance_db (s : State) (u : DbUnit) : s.advance.db u = s.db u :=
  State.db_congr u s.advance_toRegs

@[simp] theorem State.advance_enable (s : State) (u : DbUnit) : s.advance.enable u = s.enable u :=
  State.enable_congr u s.advance_toRegs

@[simp] theorem State.advance_fire (s : State) (u : DbUnit) : s.advance.fire u = s.fire u := by
  cases u with
  | start => exact s.advance_startFire
  | stop => exact s.advance_stopFire

/-! ### The main unit's answer to an event, and to the rest -/

theorem State.performs_eq_reset {s : State} : s.performs = .reset ↔ s.input.rst = true := by
  obtain ⟨v, hv, -⟩ := step_next s
  constructor
  · intro hop
    by_contra hr
    exact hv.ne_reset (Bool.not_eq_true _ ▸ hr) hop
  · intro hr
    rw [State.performs_eq, State.stepOp, State.mainOp_eq, if_pos hr]

/-- R203: the start event of this step starts the run. -/
theorem State.performs_of_fires_start {s : State} (hf : s.fires .start = true) : s.performs = .selStart := by
  obtain ⟨hr, hen, -⟩ := (s.fires_eq_true .start).mp hf
  obtain ⟨hc, -⟩ := s.enable_start_eq_true.mp hen
  simp [State.performs_eq, State.stepOp, State.mainOp_eq, hr, hc, hf]

/-- R204, R233: the stop event of this step aborts the run. -/
theorem State.performs_of_fires_stop {s : State} (hf : s.fires .stop = true) : s.performs = .runAbort := by
  obtain ⟨hr, hen, -⟩ := (s.fires_eq_true .stop).mp hf
  have hc := s.enable_stop_eq_true.mp hen
  simp [State.performs_eq, State.stepOp, State.mainOp_eq, hr, hc, hf]

theorem StepCase.started {s v : State} (hv : StepCase s .selStart v) :
    v.ctrl = .running ∧ v.valve = true ∧ v.runTier = s.selTier := by
  cases hv
  exact ⟨rfl, rfl, rfl⟩

/-- The tick of an aborting step is not counted. -/
theorem StepCase.aborted {s v : State} (hv : StepCase s .runAbort v) :
    v.ctrl = .selecting ∧ v.valve = false ∧ v.timeLeft = s.timeLeft ∧ v.led = s.led := by
  cases hv
  exact ⟨rfl, rfl, rfl, rfl⟩

/-- Past the first check a tick is counted in every step that neither aborts nor resets. -/
theorem StepCase.counts_tick {s v : State} {op : Instr} (hv : StepCase s op v) (hc : s.ctrl = .running)
    (hp : s.phase = .run) (ht : s.input.tick = true) (hr : s.input.rst = false) (hf : s.fires .stop = false) :
    op ∈ [Instr.runExpire, .runTickStep, .runTickRound] ∧ v.timeLeft = s.timeLeft - 1 := by
  cases hv with
  | runExpire | runTickStep | runTickRound => exact ⟨by simp, rfl⟩
  | reset hrst => exact nomatch hr.symm.trans hrst
  | runAbort _ _ hfire => exact nomatch hf.symm.trans hfire
  | runWait _ _ _ _ hquiet => exact nomatch ht.symm.trans hquiet
  | runFirstStep _ _ _ hfirst | runFirstRound _ _ _ hfirst => exact nomatch hp.symm.trans hfirst
  | selStart _ hsel | selSample _ hsel | selDrop _ hsel | selIdle _ hsel => exact nomatch hc.symm.trans hsel

/-! ### A unit that settles -/

/-- The operations that disable a unit which was enabled, other than the one its own event selects. -/
def disablers : DbUnit → List Instr
  | .start => [.reset]
  | .stop => [.reset, .runExpire]

theorem reset_mem_disablers (u : DbUnit) : Instr.reset ∈ disablers u := by
  cases u <;> exact List.mem_cons_self

theorem StepCase.rst_eq_false {s v : State} {op : Instr} {u : DbUnit} (hv : StepCase s op v) (hop : op ∉ disablers u) :
    s.input.rst = false := by
  cases hv with
  | reset => exact absurd (reset_mem_disablers u) hop
  | _ hr => exact hr

/-- None of the next `n` steps from `s` disables the unit from outside. -/
def Unbroken (u : DbUnit) (n : Nat) (s : State) : Prop := ∀ op ∈ operationsOf n s, op ∉ disablers u

theorem unbroken_succ {u : DbUnit} {n : Nat} {s t : State} (h : step s = .next t) :
    Unbroken u (n + 1) s ↔ s.performs ∉ disablers u ∧ Unbroken u n t := by
  simp only [Unbroken, operationsOf_succ h, List.forall_mem_cons]

/-- A unit stays enabled until it fires, and the valve stays as it is; a run is then past its first check. -/
theorem StepCase.stays_enabled {s v : State} {op : Instr} {u : DbUnit} (hv : StepCase s op v) (hen : s.enable u = true)
    (hf : s.fires u = false) (hop : op ∉ disablers u) :
    v.enable u = true ∧ v.valve = s.valve ∧ (v.ctrl = .running → v.phase = .run) := by
  cases u with
  | start =>
    obtain ⟨hc, hvalid⟩ := s.enable_start_eq_true.mp hen
    rw [State.enable_start_eq_true]
    cases hv with
    | reset => exact absurd (List.mem_singleton.mpr rfl) hop
    | selStart _ _ hfire => exact nomatch hf.symm.trans hfire
    | selSample => exact ⟨⟨hc, rfl⟩, rfl, fun hrun => nomatch hc.symm.trans hrun⟩
    | selDrop | selIdle => exact ⟨⟨hc, hvalid⟩, rfl, fun hrun => nomatch hc.symm.trans hrun⟩
    | runAbort _ hrun | runExpire _ hrun | runTickStep _ hrun | runTickRound _ hrun | runWait _ hrun
    | runFirstStep _ hrun | runFirstRound _ hrun => exact nomatch hc.symm.trans hrun
  | stop =>
    have hc := s.enable_stop_eq_true.mp hen
    rw [State.enable_stop_eq_true]
    cases hv with
    | reset | runExpire => exact absurd (by simp [disablers]) hop
    | runAbort _ _ hfire => exact nomatch hf.symm.trans hfire
    | runTickStep _ _ _ hp | runTickRound _ _ _ hp | runWait _ _ _ hp => exact ⟨hc, rfl, fun _ => hp⟩
    | runFirstStep | runFirstRound => exact ⟨hc, rfl, fun _ => rfl⟩
    | selStart _ hsel | selSample _ hsel | selDrop _ hsel | selIdle _ hsel => exact nomatch hc.symm.trans hsel

/-- The unit is enabled and in SETTLE, its count `n`; the valve is at `valve`, and a run is past its first check. -/
structure Settling (u : DbUnit) (n : Int) (valve : Bool) (s : State) : Prop where
  enabled : s.enable u = true
  settle : (s.db u).state = .settle
  count : ((s.db u).cnt.toNat : Int) = n
  valve_eq : s.valve = valve
  phase : s.ctrl = .running → s.phase = .run

namespace Settling

variable {u : DbUnit} {n : Int} {valve : Bool} {s v : State} {op : Instr}

theorem advance (h : Settling u n valve s) : Settling u n valve s.advance := by
  obtain ⟨hen, hd, hcount, hvalve, hphase⟩ := h
  constructor <;> simpa

theorem lastOf_eq_false (h : Settling u n valve s) (hn : 1 < n) : lastOf (s.db u).cnt = false := by
  have hcount := h.count
  rw [lastOf_eq, decide_eq_false_iff_not]
  omega

theorem lastOf_eq_true (h : Settling u 1 valve s) : lastOf (s.db u).cnt = true := by
  have hcount := h.count
  rw [lastOf_eq, decide_eq_true_eq]
  omega

theorem db_eq (h : Settling u 1 valve s) : s.db u = ⟨.settle, 1⟩ := by
  have hcnt : (s.db u).cnt = 1 := BitVec.eq_of_toNat_eq (by exact_mod_cast h.count)
  rw [← h.settle, ← hcnt]

/-- A press arms an enabled unit that is IDLE with the whole delay (R187). -/
theorem of_press (hv : StepCase s op v) (hen : s.enable u = true) (hd : (s.db u).state = .idle)
    (hbtn : buttonOf s.input u = true) (hop : op ∉ disablers u) : Settling u 50 s.valve v := by
  have hr := hv.rst_eq_false hop
  obtain ⟨hen', hvalve, hphase⟩ := hv.stays_enabled hen (State.fires_of_idle hd) hop
  have hdb : v.db u = ⟨.settle, 50⟩ := by rw [hv.db_eq, State.dbNext_of_idle hr hen hd, if_pos hbtn]
  exact ⟨hen', by rw [hdb], by rw [hdb]; rfl, hvalve, hphase⟩

/-- Before its last tick a unit that settles goes on settling, one less on the count for a tick (R188, R189). -/
theorem next (h : Settling u (s.input.tick.toInt + n) valve s) (hn : 0 < n) (hv : StepCase s op v)
    (hop : op ∉ disablers u) : Settling u n valve v := by
  have hr := hv.rst_eq_false hop
  have hcount := h.count
  cases ht : s.input.tick with
  | false =>
    obtain ⟨hen, hvalve, hphase⟩ := hv.stays_enabled h.enabled (State.fires_of_no_tick u ht) hop
    have hdb : v.db u = s.db u := by rw [hv.db_eq, State.dbNext_of_hold hr h.enabled h.settle ht]
    rw [ht, Bool.toInt_false, Int.zero_add] at hcount
    exact ⟨hen, by rw [hdb, h.settle], by rw [hdb, hcount], hvalve.trans h.valve_eq, hphase⟩
  | true =>
    rw [ht, Bool.toInt_true] at hcount
    have hlast := h.lastOf_eq_false (by rw [ht, Bool.toInt_true]; omega)
    obtain ⟨hen, hvalve, hphase⟩ := hv.stays_enabled h.enabled (State.fires_of_not_last hlast) hop
    have hdb : v.db u = ⟨.settle, (s.db u).cnt - 1⟩ := by
      rw [hv.db_eq, State.dbNext_of_count hr h.enabled h.settle ht hlast]
    refine ⟨hen, by rw [hdb], ?_, hvalve.trans h.valve_eq, hphase⟩
    rw [hdb, settleCount_sub_one_toNat (by omega)]
    omega

section Decision

variable (h : Settling u 1 valve s) (hr : s.input.rst = false) (ht : s.input.tick = true)
include h hr ht

theorem dbNext_eq : s.dbNext u = Debouncer.cleared :=
  State.dbNext_of_last hr h.enabled h.settle ht h.lastOf_eq_true

theorem fires_eq : s.fires u = !buttonOf s.input u :=
  State.fires_of_last hr h.enabled h.settle ht h.lastOf_eq_true

theorem rejects (hbtn : buttonOf s.input u = true) : s.debounceOp u = .dbReject u :=
  State.debounceOp_of_rejects hr h.enabled h.settle ht h.lastOf_eq_true hbtn

end Decision

end Settling

/-! ### From the press to the deciding step -/

/-- Inputs with fewer ticks than the count leave the unit settling, with the ticks off the count. -/
theorem runSteps_settling {u : DbUnit} {valve : Bool} {ws rest : List Input} {s : State}
    (h : Settling u (ticksIn ws + 1) valve s) (hs : s.stimulus = ws ++ rest) (hquiet : Unbroken u ws.length s) :
    ∃ t, runSteps ws.length s = .next t ∧ t.stimulus = rest ∧ Settling u 1 valve t := by
  induction ws generalizing s with
  | nil => exact ⟨s, rfl, hs, h⟩
  | cons i ws ih =>
    obtain ⟨v, hv, hst⟩ := step_next s
    obtain ⟨hop, hquiet⟩ := (unbroken_succ hst).mp hquiet
    rw [ticksIn_cons, ← s.input_cons i _ hs, Int.add_assoc] at h
    have hnext := h.next (by omega) hv hop
    obtain ⟨t, hrun, hrest, ht⟩ := ih hnext.advance (by rw [step_stimulus hst, hs]; rfl) hquiet
    refine ⟨t, ?_, hrest, ht⟩
    rw [List.length_cons, runSteps_succ, hst]
    exact hrun

/-- R192: a press and 49 ticks bring an enabled unit to its last tick. -/
theorem runSteps_settling_of_press {u : DbUnit} {a : Input} {ws rest : List Input} {s : State}
    (hen : s.enable u = true) (hd : (s.db u).state = .idle) (hs : s.stimulus = a :: (ws ++ rest))
    (hbtn : buttonOf a u = true) (hticks : ticksIn ws = 49) (hquiet : Unbroken u (ws.length + 1) s) :
    ∃ t, runSteps (ws.length + 1) s = .next t ∧ t.stimulus = rest ∧ Settling u 1 s.valve t := by
  obtain ⟨v, hv, hst⟩ := step_next s
  obtain ⟨hop, hquiet⟩ := (unbroken_succ hst).mp hquiet
  rw [← s.input_cons a _ hs] at hbtn
  have harmed := Settling.of_press hv hen hd hbtn hop
  obtain ⟨t, hrun, hrest, ht⟩ :=
    runSteps_settling (by rw [hticks]; exact harmed.advance) (by rw [step_stimulus hst, hs]; rfl) hquiet
  refine ⟨t, ?_, hrest, ht⟩
  rw [runSteps_succ, hst]
  exact hrun

/-- `RESET` is performed in the steps whose input has `rst` = 1, and in no others. -/
theorem reset_mem_operationsOf {ws rest : List Input} {s : State} (hs : s.stimulus = ws ++ rest) :
    Instr.reset ∈ operationsOf ws.length s ↔ ∃ w ∈ ws, w.rst = true := by
  induction ws generalizing s with
  | nil => simp [operationsOf]
  | cons i ws ih =>
    obtain ⟨v, -, hst⟩ := step_next s
    have hi : s.input = i := s.input_cons i _ hs
    rw [List.length_cons, operationsOf_succ hst, List.mem_cons, eq_comm, State.performs_eq_reset, hi,
      ih (by rw [step_stimulus hst, hs]; rfl), List.exists_mem_cons_iff]

/-- Without a reset nothing disables the start unit from outside. -/
theorem unbroken_start {ws rest : List Input} {s : State} (hs : s.stimulus = ws ++ rest)
    (hr : ∀ w ∈ ws, w.rst = false) : Unbroken .start ws.length s := by
  rintro op hop hdis
  obtain rfl := List.mem_singleton.mp hdis
  obtain ⟨w, hw, hrst⟩ := (reset_mem_operationsOf hs).mp hop
  exact nomatch (hr w hw).symm.trans hrst

/-- R204, R205: only `RESET` and `RUN_EXPIRE` disable the stop unit from outside. -/
theorem unbroken_stop_iff {n : Nat} {s : State} :
    Unbroken .stop n s ↔ ∀ op ∈ operationsOf n s, op ≠ .reset ∧ op ≠ .runExpire := by
  simp [Unbroken, disablers]

end Sys2Proof.Machine

namespace Sys2Proof.Proofs

open Sys2Proof.Machine

/-- Settles O23: the four arms write the cleared registers to their unit, with its fire signal. -/
theorem debounceClearingOperations : Obligations.DebounceClearingOperations :=
  fun _ => ⟨⟨rfl, rfl⟩, ⟨rfl, rfl⟩, ⟨rfl, rfl⟩, ⟨rfl, rfl⟩⟩

/-- Settles O24: the arms that keep or load are the write itself; a positive count does not wrap. -/
theorem debounceCountingOperations : Obligations.DebounceCountingOperations :=
  fun _ => ⟨⟨rfl, rfl⟩, ⟨rfl, rfl⟩, ⟨rfl, rfl⟩, ⟨_, rfl, settleCount_sub_one_toNat⟩, _, rfl, settleCount_sub_one_toNat⟩

/-- Settles O29: the word's `rst` bit selects the three resets. -/
theorem resetStepLeavesTheResetState : Obligations.ResetStepLeavesTheResetState := by
  intro s hr
  obtain ⟨v, hv, hst⟩ := step_next s
  obtain ⟨-, -, hstart, hstop⟩ := hv.debouncers_eq
  refine ⟨State.performs_eq_reset.mpr hr, State.debounceOp_of_rst _ hr, State.debounceOp_of_rst _ hr, v.advance, hst,
    ?_, ?_, step_toRegs_of_rst hr hst⟩
  · rw [State.advance_startFire, hstart, State.fires_of_rst _ hr]
  · rw [State.advance_stopFire, hstop, State.fires_of_rst _ hr]

/-- Settles O30, along the cases of the statement: off, IDLE, SETTLE without a tick, at its last tick, and above it. -/
theorem debouncerStep : Obligations.DebouncerStep := by
  intro s u
  obtain ⟨v, hv, hst⟩ := step_next s
  refine ⟨v.advance, hst, ?_⟩
  simp only [State.advance_db, State.advance_fire, hv.db_eq, hv.fire_eq]
  by_cases hoff : s.input.rst = true ∨ s.enable u = false
  · rw [if_pos hoff]
    exact State.cleared_of_off hoff
  · rw [if_neg hoff]
    rw [not_or, Bool.not_eq_true, Bool.not_eq_false] at hoff
    obtain ⟨hr, hen⟩ := hoff
    cases hd : (s.db u).state with
    | idle => exact ⟨State.dbNext_of_idle hr hen hd, State.fires_of_idle hd⟩
    | settle =>
      have hlast := lastOf_eq (s.db u).cnt
      cases ht : s.input.tick with
      | false => exact ⟨State.dbNext_of_hold hr hen hd ht, State.fires_of_no_tick u ht⟩
      | true =>
        simp only [Bool.true_eq_false, if_false]
        split_ifs with hcnt
        · rw [decide_eq_true hcnt] at hlast
          exact ⟨State.dbNext_of_last hr hen hd ht hlast, State.fires_of_last hr hen hd ht hlast⟩
        · rw [decide_eq_false hcnt] at hlast
          rw [State.dbNext_of_count hr hen hd ht hlast, settleCount_sub_one_toNat (by omega)]
          exact ⟨rfl, by omega, State.fires_of_not_last hlast⟩

/-- Settles O39: the unit that is disabled is the one held cleared. -/
theorem debouncersExcludeEachOther : Obligations.DebouncersExcludeEachOther := by
  intro s
  refine ⟨?_, fun ⟨hstart, hstop⟩ => ?_⟩
  · obtain ⟨u, hoff⟩ := s.exists_disabled
    cases hr : s.input.rst with
    | false => exact ⟨u, .inl (State.debounceOp_of_disabled hr hoff)⟩
    | true => exact ⟨u, .inr (State.debounceOp_of_rst u hr)⟩
  · exact s.not_fires_both ⟨State.debounceOp_eq_dbFire.mp hstart, State.debounceOp_eq_dbFire.mp hstop⟩

/-- Settles O50: 49 ticks after the press the count is 1, and the step of the next tick decides. -/
theorem startEventAtFiftiethTick : Obligations.StartEventAtFiftiethTick := by
  intro s a ws z rest hc hvalid hd hs harst hpress hwrst hticks hzrst hztick
  have hquiet : Unbroken .start (ws.length + 1) s := by
    have hrsts : ∀ w ∈ a :: ws, w.rst = false := List.forall_mem_cons.mpr ⟨harst, hwrst⟩
    exact unbroken_start (rest := z :: rest) hs hrsts
  obtain ⟨t, hrun, hrest, hset⟩ :=
    runSteps_settling_of_press (s.enable_start_eq_true.mpr ⟨hc, hvalid⟩) hd hs hpress hticks hquiet
  obtain rfl := t.input_cons z rest hrest
  obtain ⟨v, hv, hst⟩ := step_next t
  obtain ⟨htc, -⟩ := t.enable_start_eq_true.mp hset.enabled
  have hfires := hset.fires_eq hzrst hztick
  have hcleared : v.dbs = ⟨.idle, 0⟩ := (hv.db_eq .start).trans (hset.dbNext_eq hzrst hztick)
  refine ⟨t, v.advance, hrun, hst, htc, hset.valve_eq, hset.db_eq, fun hbtn => ?_, fun hbtn => ?_⟩
  · have hfire : t.fires .start = true := by rw [hfires, buttonOf, hbtn]; rfl
    have hop := State.performs_of_fires_start hfire
    rw [hop] at hv
    obtain ⟨hrunning, hopen, htier⟩ := hv.started
    rw [State.advance_toRegs]
    exact ⟨State.debounceOp_eq_dbFire.mpr hfire, hop, hrunning, hopen, htier, hcleared⟩
  · have hfire : t.fires .start = false := by rw [hfires, buttonOf, hbtn]; rfl
    have hop : t.performs ∉ disablers .start := List.mem_singleton.not.mpr (hv.ne_reset hzrst)
    obtain ⟨hen, hvalve, -⟩ := hv.stays_enabled hset.enabled hfire hop
    obtain ⟨hselecting, -⟩ := v.enable_start_eq_true.mp hen
    rw [State.advance_toRegs]
    exact ⟨hset.rejects hzrst hztick hbtn, hselecting, hvalve.trans hset.valve_eq, hcleared⟩

/-- Settles O54: the same delay in a run; the deciding step aborts it, or counts its tick. -/
theorem stopEventAtFiftiethTick : Obligations.StopEventAtFiftiethTick := by
  intro s a ws z rest hc hd hs hpress hticks hquiet hzrst hztick
  obtain ⟨t, hrun, hrest, hset⟩ :=
    runSteps_settling_of_press (s.enable_stop_eq_true.mpr hc) hd hs hpress hticks (unbroken_stop_iff.mpr hquiet)
  obtain rfl := t.input_cons z rest hrest
  obtain ⟨v, hv, hst⟩ := step_next t
  have htc := t.enable_stop_eq_true.mp hset.enabled
  have hfires := hset.fires_eq hzrst hztick
  have hcleared : v.dbp = ⟨.idle, 0⟩ := (hv.db_eq .stop).trans (hset.dbNext_eq hzrst hztick)
  refine ⟨t, v.advance, hrun, hst, htc, hset.phase htc, hset.valve_eq, hset.db_eq, ?_, fun hbtn => ?_, fun hbtn => ?_⟩
  · rw [State.advance_toRegs, hcleared]
  · have hfire : t.fires .stop = true := by rw [hfires, buttonOf, hbtn]; rfl
    have hop := State.performs_of_fires_stop hfire
    rw [hop] at hv
    rw [State.advance_toRegs]
    exact ⟨State.debounceOp_eq_dbFire.mpr hfire, hop, hv.aborted⟩
  · have hfire : t.fires .stop = false := by rw [hfires, buttonOf, hbtn]; rfl
    rw [State.advance_toRegs]
    exact ⟨hset.rejects hzrst hztick hbtn, hv.counts_tick htc (hset.phase htc) hztick hzrst hfire⟩

end Sys2Proof.Proofs
end

section
/-! PROOF. The main unit (spec/43_controller.md): its start, its abort and its reset (R203, R204, R208), the selector words
bit by bit and the simultaneous step (R200), the transition table (R205, R209), and why no stop event can come early in a
run (R206). -/

namespace Sys2Proof.Machine

/-! ### The start of a run (R203) -/

/-- R141 with `MULT` = 7 left as a factor. -/
theorem initialTime_proportional_toInt : ∀ i : Tier, (initialTime .proportional i).toInt =
    ([0, 60, 80, 100, 120, 140, 160, 180] : List Int).getD i.val 0 * 7 := by decide

theorem initialTime_ofBit_toInt (b : Bool) (i : Tier) : (initialTime (Mode.ofBit b) i).toInt =
    if b then ([0, 60, 80, 100, 120, 140, 160, 1575] : List Int).getD i.val 0
    else ([0, 60, 80, 100, 120, 140, 160, 180] : List Int).getD i.val 0 * 7 := by
  cases b with
  | false => exact initialTime_proportional_toInt i
  | true => exact (initialTime_toInt i).right

/-- R203. -/
theorem exec_selStart (s : State) :
    exec .selStart s = .next { s with
      runTier := s.selTier, runMode := Mode.ofBit s.input.mode
      timeLeft := initialTime (Mode.ofBit s.input.mode) s.selTier
      chkK := 7, phase := .first, valve := true, ctrl := .running, ledStb := false } := rfl

/-! ### The selector words, bit by bit (R200) -/

theorem State.enable_start_eq (s : State) : s.enable .start = decide (s.ctrl = .selecting ∧ s.selValid = true) := by
  rw [Bool.eq_iff_iff, s.enable_start_eq_true, decide_eq_true_iff]

/-- R200 step 2 for the start unit. -/
theorem State.debounceWord_start (s : State) : s.debounceWord .start = BitVec.ofBool s.input.rst
    ++ BitVec.ofBool (decide (s.ctrl = .selecting ∧ s.selValid = true))
    ++ BitVec.ofBool (decide (s.dbs.state = .settle)) ++ BitVec.ofBool s.input.btnStart
    ++ BitVec.ofBool s.input.tick ++ BitVec.ofBool (decide (s.dbs.cnt.toNat ≤ 1)) := by
  rw [← s.enable_start_eq, ← lastOf_eq]
  rfl

/-- R200 step 2 for the stop unit. -/
theorem State.debounceWord_stop (s : State) : s.debounceWord .stop = BitVec.ofBool s.input.rst
    ++ BitVec.ofBool (decide (s.ctrl = .running))
    ++ BitVec.ofBool (decide (s.dbp.state = .settle)) ++ BitVec.ofBool s.input.btnStop
    ++ BitVec.ofBool s.input.tick ++ BitVec.ofBool (decide (s.dbp.cnt.toNat ≤ 1)) := by
  rw [← lastOf_eq]
  rfl

/-- R200 step 3. -/
theorem State.mainWord_eq (s : State) (startFire stopFire : Bool) : s.mainWord startFire stopFire =
    BitVec.ofBool s.input.rst ++ BitVec.ofBool (decide (s.ctrl = .running))
      ++ BitVec.ofBool (decide (s.phase = .run)) ++ BitVec.ofBool (styleOf s.runMode s.runTier)
      ++ BitVec.ofBool stopFire ++ BitVec.ofBool startFire
      ++ BitVec.ofBool (decide (s.dbs.state = .settle)) ++ BitVec.ofBool s.input.sampleValid
      ++ BitVec.ofBool s.input.tick ++ BitVec.ofBool (decide (s.timeLeft.toInt ≤ 1)) := by
  rw [← expireOf_eq]
  rfl

/-! ### The operations of a step write apart from each other (R200; log 1) -/

/-- The main unit's operation reads no register that a debouncer writes in the same step, and writes none. -/
theorem StepCase.exec_alone {s u : State} {op : Instr} (hu : StepCase s op u) :
    ∃ m, exec op s = .next m ∧
      u.toRegs = { m.toRegs with dbs := s.dbNext .start, dbp := s.dbNext .stop } := by
  cases hu <;> exact ⟨_, rfl, rfl⟩

/-- A debouncer's operation, performed alone, leaves its unit's registers as the step does. -/
theorem exec_debounceOp_alone (s : State) (u : DbUnit) :
    ∃ a, exec (s.debounceOp u) s = .next a ∧ a.db u = s.dbNext u := by
  refine ⟨_, exec_debounceOp s s u rfl, ?_⟩
  cases u <;> rfl

/-- The output ports are registers of the main unit. -/
theorem State.output_eq {t m : State} {dbs dbp : Debouncer} (h : t.toRegs = { m.toRegs with dbs := dbs, dbp := dbp }) :
    t.output = ⟨m.valve, m.ledStb, m.led⟩ := by
  rw [State.output, h]

/-! ### The operation performed, row by row of the table (R209)

The rows of `RESET`, `SEL_START` and `RUN_ABORT` are `State.performs_eq_reset`, `State.performs_of_fires_start` and
`State.performs_of_fires_stop`. -/

section Rows

variable {s : State} (hr : s.input.rst = false)
include hr

theorem State.performs_of_selecting (hc : s.ctrl = .selecting) (hf : s.fires .start = false) :
    s.performs ∈ [Instr.selSample, .selDrop, .selIdle] := by
  rw [State.performs_eq, State.stepOp, State.mainOp_eq]
  simp only [hr, hc, hf, Bool.false_eq_true, if_false, reduceCtorEq]
  split_ifs <;> decide

theorem State.performs_of_first (hc : s.ctrl = .running) (hp : s.phase = .first) (hf : s.fires .stop = false) :
    s.performs ∈ [Instr.runFirstStep, .runFirstRound] := by
  rw [State.performs_eq, State.stepOp, State.mainOp_eq]
  simp only [hr, hc, hp, hf, Bool.false_eq_true, if_false, if_true, reduceCtorEq]
  split_ifs <;> decide

variable (hc : s.ctrl = .running) (hp : s.phase = .run) (hf : s.fires .stop = false)
include hc hp hf

theorem State.performs_of_expire (ht : s.input.tick = true) (he : expireOf s.timeLeft = true) :
    s.performs = .runExpire := by
  simp [State.performs_eq, State.stepOp, State.mainOp_eq, hr, hc, hp, hf, ht, he]

theorem State.performs_of_tick (ht : s.input.tick = true) (he : expireOf s.timeLeft = false) :
    s.performs ∈ [Instr.runTickStep, .runTickRound] := by
  rw [State.performs_eq, State.stepOp, State.mainOp_eq]
  simp only [hr, hc, hp, hf, ht, he, Bool.false_eq_true, if_false, if_true]
  split_ifs <;> decide

theorem State.performs_of_no_tick (ht : s.input.tick = false) : s.performs = .runWait := by
  simp [State.performs_eq, State.stepOp, State.mainOp_eq, hr, hc, hp, hf, ht]

end Rows

/-! ### Where an operation leaves `ctrl_state` and `phase` (R209) -/

/-- R205, R208: the three operations that close a run. -/
theorem StepCase.closed {s u : State} {op : Instr} (hu : StepCase s op u)
    (hop : op ∈ [Instr.runExpire, .runAbort, .reset]) :
    (u.ctrl = .selecting ∧ u.phase = .first) ∧ u.valve = false := by
  cases hu with
  | reset | runAbort | runExpire => exact ⟨⟨rfl, rfl⟩, rfl⟩
  | _ => exact absurd hop (by decide)

/-- R203: the first phase of the run, the display left alone and the strobe cleared. -/
theorem StepCase.first_of_selStart {s u : State} (hu : StepCase s .selStart u) :
    u.phase = .first ∧ u.led = s.led ∧ u.ledStb = false := by
  cases hu
  exact ⟨rfl, rfl, rfl⟩

/-- R151, R152: the first check ends the FIRST phase, with an LED write. -/
theorem StepCase.run_of_first_check {s u : State} {op : Instr} (hu : StepCase s op u)
    (hop : op ∈ [Instr.runFirstStep, .runFirstRound]) : (u.ctrl = .running ∧ u.phase = .run) ∧ u.ledStb = true := by
  cases hu with
  | runFirstStep _ hc | runFirstRound _ hc => exact ⟨⟨hc, rfl⟩, rfl⟩
  | _ => exact absurd hop (by decide)

/-- R116 to R118: the operations of SELECTING that start no run write neither register. -/
theorem StepCase.selects_on {s u : State} {op : Instr} (hu : StepCase s op u)
    (hop : op ∈ [Instr.selSample, .selDrop, .selIdle]) : u.ctrl = .selecting ∧ u.phase = s.phase := by
  cases hu with
  | selSample _ hc | selDrop _ hc | selIdle _ hc => exact ⟨hc, rfl⟩
  | _ => exact absurd hop (by decide)

/-- R153, R154, R156: nor do those that go on with the countdown. -/
theorem StepCase.counts_on {s u : State} {op : Instr} (hu : StepCase s op u)
    (hop : op ∈ [Instr.runTickStep, .runTickRound, .runWait]) : u.ctrl = .running ∧ u.phase = .run := by
  cases hu with
  | runTickStep _ hc _ hp | runTickRound _ hc _ hp | runWait _ hc _ hp => exact ⟨hc, hp⟩
  | _ => exact absurd hop (by decide)

/-- R205: no other operation leaves RUNNING. -/
theorem StepCase.selecting_iff_closed {s u : State} {op : Instr} (hu : StepCase s op u) (hc : s.ctrl = .running) :
    u.ctrl = .selecting ↔ op ∈ [Instr.runExpire, .runAbort, .reset] := by
  refine ⟨fun hsel => ?_, fun hop => (hu.closed hop).left.left⟩
  cases hu with
  | reset | runAbort | runExpire => decide
  | selStart => exact nomatch hsel
  | _ => exact nomatch hc.symm.trans hsel

/-! ### No stop event early in a run (R206) -/

/-- RUNNING, FIRST is entered by `SEL_START` only. -/
theorem StepCase.eq_selStart {s u : State} {op : Instr} (hu : StepCase s op u) (hrun : u.ctrl = .running)
    (hfirst : u.phase = .first) : op = .selStart := by
  cases hu with
  | selStart => rfl
  | reset | runAbort | runExpire => exact nomatch hrun
  | runFirstStep | runFirstRound => exact nomatch hfirst
  | runTickStep _ _ _ hp | runTickRound _ _ _ hp | runWait _ _ _ hp => exact nomatch hp.symm.trans hfirst
  | selSample _ hc | selDrop _ hc | selIdle _ hc => exact nomatch hc.symm.trans hrun

/-- A run starts in SELECTING, where the stop debouncer is disabled (R182, R185). -/
theorem StepCase.stop_idle_of_selStart {s u : State} (hu : StepCase s .selStart u) : u.dbp.state = .idle := by
  obtain ⟨-, hdbp, -, -⟩ := hu.debouncers_eq
  cases hu with
  | selStart _ hc => rw [hdbp, State.dbNext_of_disabled (State.enable_stop_of_selecting hc), Debouncer.cleared]

theorem StepCase.stopQuietInFirst {s u : State} {op : Instr} (hu : StepCase s op u) : StopQuietInFirst u := by
  rintro ⟨hrun, hfirst⟩
  obtain rfl := hu.eq_selStart hrun hfirst
  exact hu.stop_idle_of_selStart

theorem StopQuietInFirst.of_toRegs_eq {s t : State} (h : StopQuietInFirst s) (he : t.toRegs = s.toRegs) :
    StopQuietInFirst t := by
  simpa only [StopQuietInFirst, he] using h

theorem StopQuietInFirst.fires_stop {s : State} (h : StopQuietInFirst s) (hc : s.ctrl = .running)
    (hp : s.phase = .first) : s.fires .stop = false :=
  State.fires_of_idle (u := .stop) (h ⟨hc, hp⟩)

/-- The step that starts a run, as the next one finds it. -/
theorem step_of_selStart {s t : State} (hop : s.performs = .selStart) (hst : step s = .next t) :
    (t.ctrl = .running ∧ t.phase = .first ∧ t.dbp.state = .idle) ∧
      t.valve = true ∧ t.led = s.led ∧ t.ledStb = false := by
  obtain ⟨_, u, rfl, hu, rfl⟩ := step_case hst
  rw [hop] at hu
  obtain ⟨hc, hvalve, -⟩ := hu.started
  obtain ⟨hp, hled, hstb⟩ := hu.first_of_selStart
  rw [State.advance_toRegs]
  exact ⟨⟨hc, hp, hu.stop_idle_of_selStart⟩, hvalve, hled, hstb⟩

/-- R151, R152: without a reset the step after it makes the first LED write of the run. -/
theorem step_of_first {s : State} (hr : s.input.rst = false) (hc : s.ctrl = .running) (hp : s.phase = .first)
    (hd : s.dbp.state = .idle) :
    s.performs ∈ [Instr.runFirstStep, .runFirstRound] ∧ ∃ t, step s = .next t ∧ t.ledStb = true := by
  have hop := State.performs_of_first hr hc hp (State.fires_of_idle (u := .stop) hd)
  obtain ⟨u, hu, hst⟩ := step_next s
  refine ⟨hop, u.advance, hst, ?_⟩
  rw [State.advance_toRegs]
  exact (hu.run_of_first_check hop).right

/-- A debouncer in SETTLE has armed within the last `n` steps: each has taken at most 1 off the count of 50 (R187, R188). -/
def Debouncer.ArmedWithin (n : Nat) (d : Debouncer) : Prop := d.state = .settle → 50 < d.cnt.toNat + n

theorem Debouncer.ArmedWithin.of_idle {n : Nat} {d : Debouncer} (h : d.state = .idle) : d.ArmedWithin n :=
  fun hd => nomatch h.symm.trans hd

/-- In fewer than 50 steps the count does not reach 1. -/
theorem Debouncer.ArmedWithin.fires_eq_false {n : Nat} {s : State} {u : DbUnit} (h : (s.db u).ArmedWithin n)
    (hn : n < 50) : s.fires u = false := by
  cases hd : (s.db u).state with
  | idle => exact State.fires_of_idle hd
  | settle =>
    have hcount := h hd
    exact State.fires_of_not_last (by rw [lastOf_eq, decide_eq_false_iff_not]; omega)

/-- Along the cases of a unit's step: off, IDLE, SETTLE without a tick, at its last tick, and above it. -/
theorem Debouncer.ArmedWithin.dbNext {n : Nat} {s : State} {u : DbUnit} (h : (s.db u).ArmedWithin n) :
    (s.dbNext u).ArmedWithin (n + 1) := by
  by_cases hoff : s.input.rst = true ∨ s.enable u = false
  · rw [(State.cleared_of_off hoff).left]
    exact .of_idle rfl
  · rw [not_or, Bool.not_eq_true, Bool.not_eq_false] at hoff
    obtain ⟨hr, hen⟩ := hoff
    cases hd : (s.db u).state with
    | idle =>
      rw [State.dbNext_of_idle hr hen hd]
      split_ifs
      · exact fun _ => by simp
      · exact .of_idle hd
    | settle =>
      have hcount := h hd
      cases ht : s.input.tick with
      | false =>
        rw [State.dbNext_of_hold hr hen hd ht]
        exact fun _ => Nat.lt_succ_of_lt hcount
      | true =>
        cases hlast : lastOf (s.db u).cnt with
        | true =>
          rw [State.dbNext_of_last hr hen hd ht hlast]
          exact .of_idle rfl
        | false =>
          rw [State.dbNext_of_count hr hen hd ht hlast]
          rw [lastOf_eq, decide_eq_false_iff_not] at hlast
          refine fun _ => ?_
          rw [settleCount_sub_one_toNat (by omega)]
          omega

theorem runSteps_armedWithin {n : Nat} {s t : State} {u : DbUnit} (hd : (s.db u).state = .idle)
    (h : runSteps n s = .next t) : (t.db u).ArmedWithin n := by
  induction n generalizing t with
  | zero =>
    obtain rfl : s = t := by injection h
    exact .of_idle hd
  | succ n ih =>
    obtain ⟨m, hm, hst⟩ := runSteps_last h
    obtain ⟨_, v, -, hv, rfl⟩ := step_case hst
    rw [State.advance_db, hv.db_eq]
    exact (ih hm).dbNext

/-- R204: without a stop event no run is aborted. -/
theorem State.performs_ne_runAbort {s : State} (hf : s.fires .stop = false) : s.performs ≠ .runAbort := by
  intro hop
  obtain ⟨u, hu, -⟩ := step_next s
  rw [hop] at hu
  cases hu with
  | runAbort _ _ hfire => exact nomatch hf.symm.trans hfire

end Sys2Proof.Machine

namespace Sys2Proof.Proofs

open Sys2Proof.Machine

/-- Settles O27: the words are those of the model, the operation that `exec` performs alone leaves its own registers as the
step does, and the three own disjoint registers. -/
theorem stepIsSimultaneous : Obligations.StepIsSimultaneous := by
  intro s
  simp only [← State.debounceWord_start, ← State.debounceWord_stop, ← State.mainWord_eq]
  obtain ⟨a, hstart, hdbs⟩ := exec_debounceOp_alone s .start
  obtain ⟨b, hstop, hdbp⟩ := exec_debounceOp_alone s .stop
  obtain ⟨u, hu, hst⟩ := step_next s
  obtain ⟨m, hmain, hregs⟩ := hu.exec_alone
  rw [← hdbs, ← hdbp, ← u.advance_toRegs] at hregs
  exact ⟨a, b, m, u.advance, hstart, hstop, hmain, hst, hregs, State.output_eq hregs⟩

/-- Settles O31, row by row: the operation performed, and where it leaves the two registers. -/
theorem transitionTable : Obligations.TransitionTable := by
  intro s hselFirst hquiet
  obtain ⟨u, hu, hst⟩ := step_next s
  refine ⟨u.advance, hst, ?_⟩
  simp only [State.advance_toRegs, State.debounceOp_eq_dbFire, Bool.not_eq_true]
  refine ⟨fun hr => ?_, fun hr => ⟨fun hc hf => ?_, fun hc hf => ?_, fun hc hp => ?_, fun _ _ hf => ?_,
    fun hc hp hf ht he => ?_, fun hc hp hf ht he => ?_, fun hc hp hf ht => ?_⟩⟩
  · have hop := State.performs_eq_reset.mpr hr
    exact ⟨hop, (hu.closed (by simp [hop])).left⟩
  · have hop := State.performs_of_fires_start hf
    rw [hop] at hu
    exact ⟨hop, hu.started.left, hu.first_of_selStart.left⟩
  · have hop := State.performs_of_selecting hr hc hf
    obtain ⟨hc', hp'⟩ := hu.selects_on hop
    exact ⟨hop, hc', hp'.trans (hselFirst hc)⟩
  · have hf := hquiet.fires_stop hc hp
    have hop := State.performs_of_first hr hc hp hf
    exact ⟨hf, hop, (hu.run_of_first_check hop).left⟩
  · have hop := State.performs_of_fires_stop hf
    exact ⟨hop, (hu.closed (by simp [hop])).left⟩
  · have hop := State.performs_of_expire hr hc hp hf ht he
    exact ⟨hop, (hu.closed (by simp [hop])).left⟩
  · have hop := State.performs_of_tick hr hc hp hf ht he
    exact ⟨hop, hu.counts_on (List.mem_append_left [Instr.runWait] hop)⟩
  · have hop := State.performs_of_no_tick hr hc hp hf ht
    exact ⟨hop, hu.counts_on (by simp [hop])⟩

/-- Settles O32, by the cases of a step. -/
theorem exitsFromRunning : Obligations.ExitsFromRunning := by
  intro s t hc hst
  obtain ⟨_, u, rfl, hu, rfl⟩ := step_case hst
  rw [State.advance_toRegs]
  have hexit := hu.selecting_iff_closed hc
  refine ⟨hexit, fun hsel => ?_, State.performs_eq_reset.mpr, fun _ hfire => ?_⟩
  · exact (hu.closed (hexit.mp hsel)).right
  · exact State.performs_of_fires_stop (State.debounceOp_eq_dbFire.mp hfire)

/-- Settles O41: the start leaves RUNNING, FIRST with the stop debouncer IDLE, so that the next step makes the first check or
is a reset. -/
theorem valveOpensBeforeFirstLedWrite : Obligations.ValveOpensBeforeFirstLedWrite := by
  intro s t hop hst
  obtain ⟨⟨hc, hp, hidle⟩, hvalve, hled, hstb⟩ := step_of_selStart hop hst
  refine ⟨hvalve, hled, hstb, ?_⟩
  cases hr : t.input.rst with
  | false => exact .inl ⟨rfl, step_of_first hr hc hp hidle⟩
  | true => exact .inr ⟨rfl, State.performs_eq_reset.mpr hr⟩

/-- Settles O46, by the cases of a step. -/
theorem stopQuietInFirstKept : Obligations.StopQuietInFirstKept := by
  intro s t hst
  obtain ⟨_, u, -, hu, rfl⟩ := step_case hst
  exact hu.stopQuietInFirst.of_toRegs_eq u.advance_toRegs

/-- Settles O47: a unit that was IDLE fewer than 50 steps ago is not at its last tick. -/
theorem noAbortInFirstFiftySteps : Obligations.NoAbortInFirstFiftySteps := by
  refine ⟨fun s t hop hst => ?_, fun s t n hidle hn hrun => ?_⟩
  · obtain ⟨⟨-, -, hidle⟩, -⟩ := step_of_selStart hop hst
    exact hidle
  · have harmed := runSteps_armedWithin (u := .stop) hidle hrun
    exact State.performs_ne_runAbort (harmed.fires_eq_false hn)

/-- Settles O12: the registers kept are the debouncers' own. -/
theorem resetWritesTheMainUnit : Obligations.ResetWritesTheMainUnit :=
  fun _ => rfl

/-- Settles O13: the initial value is the table entry of the mode at the pin. -/
theorem selStartLoadsTheRun : Obligations.SelStartLoadsTheRun :=
  fun s => ⟨_, exec_selStart s, initialTime_ofBit_toInt s.input.mode s.selTier⟩

/-- Settles O17: the abort is the writes that close a run. -/
theorem runAbortClosesTheRun : Obligations.RunAbortClosesTheRun :=
  fun _ => rfl

end Sys2Proof.Proofs
end

section
/-! PROOF. What stands in the place of exceptions (spec/60_exceptions.md): no operation and no step fails to answer (R230), and
every run ends, whatever the inputs (R236). -/

namespace Sys2Proof.Machine

/-! ### Totality (R230) -/

/-- The meaning of each operation is written as a next state. -/
theorem exec_next (i : Instr) (s : State) : ∃ t, exec i s = .next t := by
  cases i <;> exact ⟨_, rfl⟩

/-! ### One step of a run: it closes the run, or the run goes on -/

theorem undisturbed_of_not_closing {op : Instr} (h : op ∉ [Instr.runExpire, .runAbort, .reset]) :
    op ≠ .runAbort ∧ op ≠ .reset := by
  constructor <;> rintro rfl <;> exact h (by decide)

/-- A tick that finds the counter at 1 or below closes the run, so where the run goes on a tick has counted. -/
theorem StepCase.closed_or_runGoesOn {s u : State} {op : Instr} (hu : StepCase s op u) (hc : s.ctrl = .running)
    (hp : s.phase = .run) :
    op ∈ [Instr.runExpire, .runAbort, .reset] ∨
      (s.input.tick = true → 1 < s.timeLeft.toInt) ∧ RunGoesOn s u s.input.tick.toInt := by
  refine or_iff_not_imp_left.mpr fun hopen => ?_
  have hop := undisturbed_of_not_closing hopen
  have hlong : s.input.tick = true → 1 < s.timeLeft.toInt := fun ht => by
    by_contra he
    exact hopen (by simp [hu.eq_runExpire hc hp hop ht (Int.not_lt.mp he)])
  exact ⟨hlong, hu.runGoesOn hc hp hop hlong⟩

theorem StepCase.closed_or_runGoesOn_of_first {s u : State} {op : Instr} (hu : StepCase s op u)
    (hc : s.ctrl = .running) (hp : s.phase = .first) :
    op ∈ [Instr.runExpire, .runAbort, .reset] ∨ RunGoesOn s u 0 :=
  or_iff_not_imp_left.mpr fun hopen => hu.runGoesOn_of_first hc hp (undisturbed_of_not_closing hopen)

/-- R203. -/
theorem StepCase.timeLeft_of_selStart {s u : State} (hu : StepCase s .selStart u) :
    u.timeLeft = initialTime (Mode.ofBit s.input.mode) s.selTier := by
  cases hu
  rfl

/-! ### The end of a run (R236) -/

/-- After `k` steps from `s` the block is in SELECTING with the valve closed. -/
def EndsAfter (k : Nat) (s : State) : Prop :=
  ∃ t, runSteps k s = .next t ∧ t.ctrl = .selecting ∧ t.valve = false

theorem EndsAfter.of_step {k : Nat} {s t : State} (h : EndsAfter k t) (hst : step s = .next t) :
    EndsAfter (k + 1) s := by
  obtain ⟨e, hrun, hend⟩ := h
  refine ⟨e, ?_, hend⟩
  rw [runSteps_succ, hst]
  exact hrun

/-- An operation that closes the run ends it in its own step. -/
theorem StepCase.endsAfter_one {s u : State} {op : Instr} (hu : StepCase s op u) (hst : step s = .next u.advance)
    (hop : op ∈ [Instr.runExpire, .runAbort, .reset]) : EndsAfter 1 s := by
  obtain ⟨⟨hc, -⟩, hvalve⟩ := hu.closed hop
  have hend : EndsAfter 0 u.advance := ⟨_, runSteps_zero _, by rwa [State.advance_toRegs], by rwa [State.advance_toRegs]⟩
  exact hend.of_step hst

/-- Past the first check the run ends within any inputs that carry `max(time_left, 1)` ticks. -/
theorem exists_endsAfter {ws rest : List Input} {s : State} (hc : s.ctrl = .running) (hp : s.phase = .run)
    (hs : s.stimulus = ws ++ rest) (hticks : max s.timeLeft.toInt 1 ≤ ticksIn ws) :
    ∃ k ≤ ws.length, EndsAfter k s := by
  induction ws generalizing s with
  | nil =>
    have hnone : ticksIn [] = 0 := rfl
    omega
  | cons i ws ih =>
    obtain ⟨u, hu, hst⟩ := step_next s
    rcases hu.closed_or_runGoesOn hc hp with hop | ⟨hlong, hon⟩
    · exact ⟨1, by simp, hu.endsAfter_one hst hop⟩
    · have hon := hon.advance
      rw [s.input_cons i _ hs] at hlong hon
      rw [ticksIn_cons] at hticks
      have hfewer : max u.advance.timeLeft.toInt 1 ≤ ticksIn ws := by
        rw [hon.timeLeft]
        cases ht : i.tick with
        | false =>
          simp only [ht, Bool.toInt_false] at hticks ⊢
          omega
        | true =>
          have hlong := hlong ht
          simp only [ht, Bool.toInt_true] at hticks ⊢
          omega
      obtain ⟨k, hk, hend⟩ := ih hon.ctrl hon.phase (by rw [step_stimulus hst, hs]; rfl) hfewer
      exact ⟨k + 1, Nat.succ_le_succ hk, hend.of_step hst⟩

/-- The same from the run's start, with the step of the first check before them. -/
theorem exists_endsAfter_of_first {g : Input} {ws rest : List Input} {s : State} (hc : s.ctrl = .running)
    (hp : s.phase = .first) (hs : s.stimulus = g :: (ws ++ rest)) (hticks : max s.timeLeft.toInt 1 ≤ ticksIn ws) :
    ∃ k ≤ ws.length, EndsAfter (k + 1) s := by
  obtain ⟨u, hu, hst⟩ := step_next s
  rcases hu.closed_or_runGoesOn_of_first hc hp with hop | hon
  · exact ⟨0, Nat.zero_le _, hu.endsAfter_one hst hop⟩
  · have hon := hon.advance
    obtain ⟨k, hk, hend⟩ := exists_endsAfter hon.ctrl hon.phase (by rw [step_stimulus hst, hs]; rfl)
      (by rwa [hon.timeLeft, Int.sub_zero])
    exact ⟨k, hk, hend.of_step hst⟩

end Sys2Proof.Machine

namespace Sys2Proof.Proofs

open Sys2Proof.Machine

/-- Settles O55: past the first check every step closes the run or counts its tick, by induction on the inputs; the start step
loads the counter with `INIT` and leaves the first check to do. -/
theorem everyRunEnds : Obligations.EveryRunEnds := by
  constructor
  · intro s ws rest hc hp hs hticks
    obtain ⟨k, hk, t, hend⟩ := exists_endsAfter hc hp hs hticks
    exact ⟨k, t, hk, hend⟩
  · intro s a g ws rest hop hs hticks
    obtain ⟨u, hu, hst⟩ := step_next s
    rw [hop] at hu
    obtain ⟨⟨hc, hp, -⟩, -⟩ := step_of_selStart hop hst
    have htime : u.advance.timeLeft = initialTime (Mode.ofBit a.mode) s.selTier := by
      rw [State.advance_toRegs, hu.timeLeft_of_selStart, s.input_cons a _ hs]
    obtain ⟨k, hk, hend⟩ := exists_endsAfter_of_first hc hp (by rw [step_stimulus hst, hs]; rfl) (by rwa [htime])
    obtain ⟨t, hend⟩ := hend.of_step hst
    exact ⟨k + 2, t, by omega, by omega, hend⟩

/-- Settles O25: each operation by its meaning, the step by the case it is in. -/
theorem everyOperationIsTotal : Obligations.EveryOperationIsTotal := by
  refine ⟨exec_next, fun s => ?_⟩
  obtain ⟨u, -, hst⟩ := step_next s
  exact ⟨u.advance, hst⟩

end Sys2Proof.Proofs
end

section
/-! PROOF. Format I (spec/30_encoding.md sections 1 and 6): the `IN` and `OUT` words as sums of their ports, the ports as bits of
the `IN` word (R84), and the words of a stimulus script (R93). -/

namespace Sys2Proof

/-- The number of two words joined: the upper one stands above the bits of the lower. -/
theorem append_toNat {m n : Nat} (x : BitVec m) (y : BitVec n) : (x ++ y).toNat = x.toNat * 2 ^ n + y.toNat := by
  rw [BitVec.toNat_append, ← Nat.shiftLeft_add_eq_or_of_lt y.isLt, Nat.shiftLeft_eq]

/-- R84, R93: each port's place in the `IN` word. -/
theorem encodeInput_toNat (i : Input) :
    (encodeInput i).toNat = i.rst.toNat * 2 ^ 15 + i.mode.toNat * 2 ^ 14 + i.btnStart.toNat * 2 ^ 13
      + i.btnStop.toNat * 2 ^ 12 + i.tick.toNat * 2 ^ 11 + i.sampleValid.toNat * 2 ^ 10 + i.sample.toNat := by
  simp only [encodeInput, append_toNat, BitVec.toNat_ofBool]
  omega

theorem encodeOutput_toNat (o : Output) :
    (encodeOutput o).toNat = o.valve.toNat * 2 ^ 9 + o.ledStb.toNat * 2 ^ 8 + o.led.toNat := by
  simp only [encodeOutput, append_toNat, BitVec.toNat_ofBool]
  omega

/-- An `IN` word is read back port by port. -/
theorem decodeInput_encodeInput (i : Input) : decodeInput (encodeInput i) = i := by
  have hsample : (encodeInput i).setWidth 10 = i.sample := BitVec.setWidth_append_eq_right
  rw [decodeInput, hsample]
  simp only [encodeInput, BitVec.getLsbD_append]
  simp

/-- Every bit of an `IN` word belongs to a port. -/
theorem decodeInput_injective : Function.Injective decodeInput := by
  intro v w h
  simp only [decodeInput, Input.mk.injEq] at h
  obtain ⟨h15, h14, h13, h12, h11, h10, hsample⟩ := h
  refine BitVec.eq_of_getLsbD_eq fun k hk => ?_
  by_cases hlow : k < 10
  · simpa [hlow] using congrArg (·.getLsbD k) hsample
  · interval_cases k <;> assumption

theorem encodeInput_decodeInput (w : InWord) : encodeInput (decodeInput w) = w :=
  decodeInput_injective (decodeInput_encodeInput _)

end Sys2Proof

namespace Sys2Proof.Machine

/-- R93: the `IN` word of a well-formed cycle line, whose sample fits its ten bits (log 15). -/
theorem encodeInput_cycle_toNat (l : Levels) {rst tick : Bool} {sample : Option Nat}
    (h : (Line.cyc rst tick sample).wellFormed = true) :
    (encodeInput (l.cycle rst tick sample)).toNat =
      rst.toNat * 2 ^ 15 + l.mode.toNat * 2 ^ 14 + l.btnStart.toNat * 2 ^ 13 + l.btnStop.toNat * 2 ^ 12
        + tick.toNat * 2 ^ 11 + sample.isSome.toNat * 2 ^ 10 + sample.getD 0 := by
  have hfits : (BitVec.ofNat 10 (sample.getD 0)).toNat = sample.getD 0 := by
    cases sample with
    | none => rfl
    | some v => exact Nat.mod_eq_of_lt (of_decide_eq_true h)
  rw [encodeInput_toNat]
  simp only [Levels.cycle, hfits]

end Sys2Proof.Machine

namespace Sys2Proof.Proofs

open Sys2Proof.Machine

/-- Settles O6: the `IN` word and the ports give each other back, and both words are the sums of their ports. -/
theorem inputAndOutputWords : Obligations.InputAndOutputWords :=
  ⟨encodeInput_decodeInput, fun i => ⟨decodeInput_encodeInput i, encodeInput_toNat i⟩, fun s => encodeOutput_toNat s.output⟩

/-- Settles O7: the lines by the recursion of `inputsOf`, the word of a cycle line from that of its input vector. -/
theorem scriptLinesGiveInputs : Obligations.ScriptLinesGiveInputs :=
  ⟨fun _ _ _ => ⟨rfl, rfl, rfl⟩, fun l _ _ _ _ h => ⟨_, rfl, encodeInput_cycle_toNat l h⟩, rfl⟩

end Sys2Proof.Proofs
end

section
/-! PROOF. The writers of the main unit's registers (spec/10_state.md section 2): a register is written in the cases of a step
whose operation R22 lists for it. That of `sel_tier` is `StepCase.selTier_eq`. -/

namespace Sys2Proof.Machine

section Writers

variable {s u : State} {op : Instr} (hu : StepCase s op u)
include hu

theorem StepCase.ctrl_valve_eq (hop : op ∉ [Instr.reset, .selStart, .runAbort, .runExpire]) :
    u.ctrl = s.ctrl ∧ u.valve = s.valve := by
  cases hu with
  | reset | selStart | runAbort | runExpire => exact absurd (by decide) hop
  | _ => exact ⟨rfl, rfl⟩

theorem StepCase.phase_eq
    (hop : op ∉ [Instr.reset, .selStart, .runFirstStep, .runFirstRound, .runAbort, .runExpire]) :
    u.phase = s.phase := by
  cases hu with
  | reset | selStart | runFirstStep | runFirstRound | runAbort | runExpire => exact absurd (by decide) hop
  | _ => rfl

theorem StepCase.selValid_eq (hop : op ∉ [Instr.reset, .selSample, .runAbort, .runExpire]) :
    u.selValid = s.selValid := by
  cases hu with
  | reset | selSample | runAbort | runExpire => exact absurd (by decide) hop
  | _ => rfl

theorem StepCase.runTier_runMode_eq (hop : op ∉ [Instr.reset, .selStart]) :
    u.runTier = s.runTier ∧ u.runMode = s.runMode := by
  cases hu with
  | reset | selStart => exact absurd (by decide) hop
  | _ => exact ⟨rfl, rfl⟩

theorem StepCase.timeLeft_eq (hop : op ∉ [Instr.reset, .selStart, .runTickStep, .runTickRound, .runExpire]) :
    u.timeLeft = s.timeLeft := by
  cases hu with
  | reset | selStart | runTickStep | runTickRound | runExpire => exact absurd (by decide) hop
  | _ => rfl

theorem StepCase.chkK_eq (hop : op ∉ [Instr.reset, .selStart, .runFirstStep, .runTickStep]) : u.chkK = s.chkK := by
  cases hu with
  | reset | selStart | runFirstStep | runTickStep => exact absurd (by decide) hop
  | _ => rfl

/-- The strobe marks the operations that write `led` (R31); without one of them, and without a reset, `led` is kept. -/
theorem StepCase.led_eq_of_not_writer
    (hop : op ∉ [Instr.reset, .selSample, .runFirstStep, .runFirstRound, .runTickStep, .runTickRound]) :
    u.led = s.led := by
  obtain ⟨hreset, hwriter⟩ := List.ne_and_not_mem_of_not_mem_cons hop
  exact hu.led_eq (Bool.eq_false_iff.mpr (mt hu.ledStb_iff.mp hwriter)) hreset

end Writers

end Sys2Proof.Machine

namespace Sys2Proof.Proofs

open Sys2Proof.Machine

/-- Settles O34, register by register, by the cases of a step. -/
theorem registersHaveTheirWriters : Obligations.RegistersHaveTheirWriters := by
  intro s t hst
  obtain ⟨_, u, rfl, hu, rfl⟩ := step_case hst
  rw [State.advance_toRegs]
  refine ⟨hu.ctrl_valve_eq, hu.phase_eq, fun hop => ?_, hu.selValid_eq, hu.runTier_runMode_eq, hu.timeLeft_eq,
    hu.chkK_eq, hu.led_eq_of_not_writer⟩
  obtain ⟨hreset, hsample⟩ := List.ne_and_not_mem_of_not_mem_cons hop
  exact hu.selTier_eq hreset (List.ne_of_not_mem_cons hsample)

end Sys2Proof.Proofs
end
